-- ==== Sys2Proof/Word.lean ====
section
/-! DEFINITION. The word types of the PN-648 and the index types of its outlets, branches, phases and
notice sources (00_scope.md, "Numbering" and "Conventions for the host interface"). -/

namespace Sys2Proof

/-- One word of the 16-bit host bus, of exchange memory, and of the converter port. -/
abbrev Word := BitVec 16

/-- One byte of exchange memory. -/
abbrev Byte := BitVec 8

/-- An outlet. The value `n` stands for the outlet the manual numbers `n + 1`. -/
abbrev OutletIx := Fin 48

/-- A branch. The value `n` stands for the branch the manual numbers `n + 1`. -/
abbrev BranchIx := Fin 6

/-- A phase. The value `n` stands for the phase the manual numbers `n + 1`. -/
abbrev PhaseIx := Fin 3

/-- A notice source by its rank: 0 the strip, 1..3 the phases, 4..9 the branches, 10..57 the outlets. -/
abbrev SourceIx := Fin 58

/-- A sample slot of a cycle, 0..63 (R8). -/
abbrev SlotIx := Fin 64

/-- A cause bit of a source's sets, as the POLL table numbers them. -/
abbrev CauseBit := Fin 8

/-- Outlet n is on branch ((n − 1) div 8) + 1. -/
def branchOf (o : OutletIx) : BranchIx := ⟨o.val / 8, by omega⟩

/-- Branch b is on phase ((b − 1) div 2) + 1. -/
def phaseOfBranch (b : BranchIx) : PhaseIx := ⟨b.val / 2, by omega⟩

/-- The phase of an outlet is the phase of its branch. -/
def phaseOf (o : OutletIx) : PhaseIx := phaseOfBranch (branchOf o)

/-- The outlet that stands at place `i` of branch `b`. -/
def outletAt (b : BranchIx) (i : Fin 8) : OutletIx := ⟨8 * b.val + i.val, by omega⟩

/-- The number the manual gives an outlet, 1..48. -/
def outletNumber (o : OutletIx) : Nat := o.val + 1

/-- The 48 outlets in outlet order. -/
def allOutlets : List OutletIx := List.finRange 48

/-- The six branches in branch order. -/
def allBranches : List BranchIx := List.finRange 6

/-- The three phases in phase order. -/
def allPhases : List PhaseIx := List.finRange 3

/-- The 58 sources in rank order. -/
def allSources : List SourceIx := List.finRange 58

/-- The eight outlets of a branch in outlet order. -/
def outletsOf (b : BranchIx) : List OutletIx := (List.finRange 8).map (outletAt b)

/-- The strip as a source. -/
def stripSource : SourceIx := 0

/-- A phase as a source. -/
def phaseSource (p : PhaseIx) : SourceIx := ⟨1 + p.val, by omega⟩

/-- A branch as a source. -/
def branchSource (b : BranchIx) : SourceIx := ⟨4 + b.val, by omega⟩

/-- An outlet as a source. -/
def outletSource (o : OutletIx) : SourceIx := ⟨10 + o.val, by omega⟩

/-- Replace one entry of a table by a function of it. -/
def upd {α : Type} {n : Nat} (v : Vector α n) (i : Fin n) (f : α → α) : Vector α n :=
  v.set i (f v[i])

/-- Apply a function to every entry of a table. -/
def mapAll {α β : Type} {n : Nat} (f : α → β) (v : Vector α n) : Vector β n := Vector.ofFn fun i => f v[i]

end Sys2Proof
end

