-- ==== Sys2Proof/Syntax.lean ====
section
/-! DEFINITION. The commands of the PN-648: one constructor for each row of spec/opcode_table.json, with
the operands the outside world or the scheduler of events gives it. -/

namespace Sys2Proof

/-- The word a host access selects: a word of exchange memory (offset `2 * w`, R175) or one of the four
control-port registers (offset `2 * r`, R182). -/
inductive HostAddr where
  | xm (word : BitVec 13)
  | control (reg : BitVec 2)
deriving DecidableEq, Repr

/-- The service words of exchange memory (R179). -/
inductive ServiceWord where
  | outlet (o : OutletIx)
  | branch (b : BranchIx)
  | strip
deriving DecidableEq, Repr

/-- Whose closing spacing a hold-off expiry belongs to (R86). -/
inductive SpacingScope where
  | strip
  | branch (b : BranchIx)
deriving DecidableEq, Repr

/-- One converter frame: phase voltages L1 to L3, then the currents of outlets 1 to 48 (R9). -/
abbrev SampleSet := Vector Word 51

/-- The commands and events of the part. -/
inductive Instr where
  /-- R185. `held`: the reset pin is asserted and stays asserted; otherwise the reset is released. -/
  | powerOnReset (held : Bool)
  /-- R1. -/
  | lineSyncEdge
  /-- R5. -/
  | edgeDeadlineExpiry
  /-- R7, in LOCKED. -/
  | flywheelStart
  /-- R7, in SEARCHING and HOLDOVER. -/
  | freeRunStart
  /-- R8, slots 1 to 63 of a cycle; slot 0 starts with its cycle. -/
  | slotStart
  /-- R10, with the frame's 51 samples and the 48 outlet-sense inputs as sampled at the completion. -/
  | completeSlot (samples : SampleSet) (sense : BitVec 48)
  /-- R12. -/
  | tick
  /-- R13. -/
  | closePendingTimeout
  /-- R57. -/
  | pulseStart (o : OutletIx)
  /-- R58. -/
  | pulseEnd (o : OutletIx)
  /-- R59. -/
  | settleEnd (o : OutletIx)
  /-- R60. -/
  | verifyDeadline (o : OutletIx)
  /-- R86. -/
  | holdOffExpiry (scope : SpacingScope)
  /-- R89. -/
  | admissionDeadlineExpiry (o : OutletIx)
  /-- R106, value 1 written to the command word. -/
  | postingOn (o : OutletIx)
  /-- R106, value 2. -/
  | postingOff (o : OutletIx)
  /-- R106, value 3. -/
  | postingCycle (o : OutletIx)
  /-- R109, value 4. -/
  | postingCancel (o : OutletIx)
  /-- R106, any other value. -/
  | postingUnknownKind (o : OutletIx) (value : Word)
  /-- R99. -/
  | dwellExpiry (o : OutletIx)
  /-- R114, value 1 written to the strip command word. -/
  | groupOn
  /-- R114, value 2. -/
  | groupOff
  /-- R114, value 3. -/
  | groupCycle
  /-- R117, value 4. -/
  | groupCancel
  /-- R113, any other value. -/
  | groupUnknownKind (value : Word)
  /-- R122, with the level the input now has. -/
  | branchSenseChange (b : BranchIx) (level : Bool)
  /-- R123. -/
  | debounceExpiry (b : BranchIx)
  /-- R138. -/
  | returnTimerExpiry (b : BranchIx)
  /-- R153, with the written value. -/
  | kick (value : Word)
  /-- R154. -/
  | graceEnd (o : OutletIx)
  /-- R155. -/
  | stallDeclaration (o : OutletIx)
  /-- R156. -/
  | recoverySpanReached (o : OutletIx)
  /-- R167, value 1 written to the capture command word. -/
  | captureStart
  /-- R172, value 2. -/
  | captureAbort
  /-- R167, any other value. -/
  | captureUnknownCommand (value : Word)
  /-- R168. -/
  | armTimeout
  /-- R180, value 1 written to an outlet service word. -/
  | outletApply (o : OutletIx)
  /-- R180, value 1 written to a branch service word. -/
  | branchApply (b : BranchIx)
  /-- R180, value 1 written to the strip service word. -/
  | stripApply
  /-- R41, value 2 written to an outlet service word. -/
  | clearEnergy (o : OutletIx)
  /-- R42, value 2 written to the strip service word. -/
  | clearAllEnergy
  /-- R160, value 3 written to an outlet service word. -/
  | rearmWatch (o : OutletIx)
  /-- R65, value 4 written to an outlet service word. -/
  | clearFault (o : OutletIx)
  /-- R179, a value that names no service of the word. -/
  | unknownService (word : ServiceWord) (value : Word)
  /-- R183, a CONTROL write with WARM 0 and RUN 1; bits 3–2 of `value` carry the attention mode. -/
  | runSet (value : Word)
  /-- R183, a CONTROL write with WARM 0 and RUN 0. -/
  | runClear (value : Word)
  /-- R184, a CONTROL write with WARM 1; its other bits are not taken. -/
  | warmReset (value : Word)
  /-- R192, a CONTROL write with WARM 0 whose RUN bit equals the run state. -/
  | attentionMode (value : Word)
  /-- R189. -/
  | pollRead
  /-- R190. -/
  | reRaise (source : SourceIx) (bit : CauseBit)
  /-- R192. -/
  | attentionPulseEnd
  /-- R176, one host write of one word. -/
  | hostWrite (addr : HostAddr) (value : Word)
  /-- R195. -/
  | flashingPatternTransition
  /-- R40. -/
  | publicationComplete
deriving DecidableEq, Repr

end Sys2Proof
end

