-- ==== Sys2Proof/Config.lean ====
section
/-! DEFINITION. The constants that the manual fixes for the part. The PN-648 manual leaves no value to
the implementation, so no constant of this file is a free value. -/

namespace Sys2Proof.Config

/-- One strip second in counts of the 8.192 MHz reference clock (00_scope.md, "Time"). -/
def countsPerSecond : Nat := 8192000

/-- One strip millisecond in counts (00_scope.md, "Time"). -/
def countsPerMs : Nat := 8192

/-- The shortest in-range candidate period, 65 Hz (R2). -/
def minPeriod : Nat := 126031

/-- The longest in-range candidate period, 45 Hz (R2); also the close-pending limit (R13). -/
def maxPeriod : Nat := 182044

/-- The held period after power-on reset, 50 Hz (R3). -/
def initialPeriod : Nat := 163840

/-- The edge deadline of LOCKED, 100 ms (R3, R4). -/
def edgeDeadline : Nat := 819200

/-- The length of a lock run (R3, R6). -/
def lockRunLength : Nat := 4

/-- The rejected candidates in a row that move LOCKED to HOLDOVER (R4). -/
def rejectRunLength : Nat := 8

/-- The largest value of the reject counter (R2). -/
def rejectRunMax : Nat := 255

/-- The missed slots in a row that make converter health STALE (R11). -/
def missedRunMax : Nat := 16

/-- One watt-hour in dW·counts, the T of Metering Arithmetic. -/
def wattHour : Nat := 294912000000

/-- The value at which Wh saturates (R31). -/
def whMax : Nat := 4294967295

/-- Unity of a calibration gain (00_scope.md, "Gains"). -/
def unityGain : Nat := 32768

/-- The number of coil reservations (R52). -/
def reservations : Nat := 4

/-- The slots of the sense history (R48). -/
def historyLength : Nat := 64

/-- The asserted values that make a sense PRESENT (R48, R60). -/
def presentCount : Nat := 8

/-- The slot starts after the settle end at which the verify deadline falls (R60). -/
def verifySlots : Nat := 256

/-- The time within which a publication finishes, 1 ms (R40). -/
def publicationCounts : Nat := 8192

/-- The half-brackets of a publication: each of the 58 records is opened and then closed (R40). -/
def publicationHalves : Nat := 116

/-- The length of an attention pulse in counts (R192). -/
def attentionPulse : Nat := 17

/-- The largest value of a re-raise timer (R190). -/
def reRaiseMax : Nat := 3600

/-- The device code that IDENT and the identity constants hold (R182, layout of the strip block). -/
def deviceCode : Word := 0x6481

/-- The number of words of the capture area (R170). -/
def captureWords : Nat := 4096

/-- The byte offset of the capture area (R175). -/
def captureBase : Nat := 0x2000

/-- What a byte of exchange memory that nothing has written reads as: R185 zeroes exchange memory. -/
def unwrittenByte : Byte := 0

end Sys2Proof.Config
end

