-- ==== Sys2Proof/Machine/State.lean ====
section
/-! DEFINITION. The state of the PN-648: every piece of state the manual gives its blocks, as plain data,
and the state right after the release of power-on reset. A quantity that the manual publishes in a second
place is held once; Machine/Layout.lean computes the other view. -/

namespace Sys2Proof.Machine

/-- The part has no fault: the manual gives every command and event an effect in every state, so no meaning
stops the machine. -/
inductive Fault where
deriving DecidableEq, Repr

/-- The reasons to refuse a command. -/
inductive Refusal where
  /-- A row of the table that has no meaning yet, raised only by an arm of `exec` that says so. Safe: the
  machine stops where the part goes on. No arm raises it now. -/
  | notModelled (mnemonic : String)
deriving DecidableEq, Repr

/-- Exchange memory's stored bytes: strictly rising addresses, none holding what an unlisted byte reads. -/
abbrev Memory := List Host.Cell

/-! ### Line Tracker (01) -/

/-- The tracker states (R3 to R6). -/
inductive Tracker where
  | searching | locked | holdover
deriving DecidableEq, Repr

/-- Which of the three events of R7 started a cycle. -/
inductive CycleKind where
  | edge | flywheel | freeRun
deriving DecidableEq, Repr

/-- A zero crossing: a slot index and the cycle counter value of its cycle (R14). -/
structure Crossing where
  slot : SlotIx
  cycle : BitVec 16
deriving DecidableEq, Repr

/-- The voltage crossing records of one phase (R14). -/
structure PhaseCrossings where
  rising : Option Crossing := none
  falling : Option Crossing := none
deriving DecidableEq, Repr

/-- The slot in flight (R8): its index, its start, and whether the capture takes it (R169). -/
structure InFlight where
  slot : SlotIx
  startAt : Nat
  captured : Bool
deriving DecidableEq, Repr

/-- The Line Tracker's state, with converter health (R11). -/
structure Line where
  tracker : Tracker
  /-- The held period P. -/
  period : Nat
  edgeRef : Option Nat
  prevCandidate : Option Nat
  lockRun : Nat
  rejectRun : Nat
  /-- The count at which the edge deadline expires, when it runs. -/
  deadline : Option Nat
  cycleStart : Nat
  cycleNo : BitVec 16
  cycleKind : CycleKind
  /-- The next slot of the cycle to start, 64 when all have started. -/
  nextSlot : Nat
  inFlight : Option InFlight
  /-- The samples of the slot that started last, when it was complete (R14). -/
  prevSamples : Option SampleSet
  seconds : BitVec 32
  /-- The count of the next tick of strip seconds. -/
  nextTick : Nat
  /-- The count of the tick that set close pending, while it is set (R13). -/
  closePending : Option Nat
  windowIndex : BitVec 32
  /-- The count at which the open window opened. -/
  windowOpened : Nat
  voltage : Vector PhaseCrossings 3
  current : Vector (Option Crossing) 48
  present : Vector Bool 3
  /-- Converter health: STALE when set. -/
  stale : Bool
  missedRun : Nat
deriving DecidableEq, Repr

/-! ### Metering Engine (02) -/

/-- One outlet's accumulators, readings and energy. -/
structure OutletMeter where
  sII : BitVec 64 := 0
  /-- Two's complement. -/
  sVI : BitVec 64 := 0
  irms : Nat := 0
  power : Nat := 0
  apparent : Nat := 0
  factor : Nat := 0
  creep : Bool := false
  reverse : Bool := false
  wh : Nat := 0
  residue : Nat := 0
  prevPower : Nat := 0
  learned : Nat := 0
deriving DecidableEq, Repr

/-- One branch's accumulator and readings. -/
structure BranchMeter where
  sBB : BitVec 64 := 0
  irms : Nat := 0
  power : Nat := 0
deriving DecidableEq, Repr

/-- One phase's accumulators and readings. -/
structure PhaseMeter where
  sVV : BitVec 64 := 0
  sPP : BitVec 64 := 0
  vrms : Nat := 0
  irms : Nat := 0
  power : Nat := 0
deriving DecidableEq, Repr

/-- What the last close gave the record headers and the strip record (R17, R39). -/
structure CloseHeader where
  window : BitVec 32 := 0
  n : Nat := 0
  stale : Bool := false
  duration : Nat := 0
  seconds : BitVec 32 := 0
  tracker : Tracker := .searching
  period : Nat := 0
  frequency : Nat := 0
  rejectRun : Nat := 0
deriving DecidableEq, Repr

/-- The Metering Engine's state. -/
structure Meter where
  outlets : Vector OutletMeter 48
  branches : Vector BranchMeter 6
  phases : Vector PhaseMeter 3
  sNN : BitVec 64
  /-- The complete slots handed to the open window. -/
  n : Nat
  neutral : Nat
  totalPower : Nat
  lastClose : CloseHeader
deriving DecidableEq, Repr

/-- The common header of a published reading record (R39). -/
structure RecordHeader where
  seq : BitVec 16 := 0
  window : BitVec 32 := 0
  n : Nat := 0
  stale : Bool := false
deriving DecidableEq, Repr

/-- An outlet's published reading record. -/
structure OutletRecord where
  header : RecordHeader := {}
  irms : Nat := 0
  power : Nat := 0
  apparent : Nat := 0
  factor : Nat := 0
  creep : Bool := false
  reverse : Bool := false
  wh : Nat := 0
  learned : Nat := 0
deriving DecidableEq, Repr

/-- A branch's published reading record. -/
structure BranchRecord where
  header : RecordHeader := {}
  irms : Nat := 0
  power : Nat := 0
deriving DecidableEq, Repr

/-- A phase's published reading record. -/
structure PhaseRecord where
  header : RecordHeader := {}
  vrms : Nat := 0
  irms : Nat := 0
  power : Nat := 0
  present : Bool := false
deriving DecidableEq, Repr

/-- The strip's published reading record. -/
structure StripRecord where
  header : RecordHeader := {}
  neutral : Nat := 0
  totalPower : Nat := 0
  duration : Nat := 0
  seconds : BitVec 32 := 0
  tracker : Tracker := .searching
  period : Nat := 0
  frequency : Nat := 0
  rejectRun : Nat := 0
deriving DecidableEq, Repr

/-- A write to an outlet record that waits for a publication to finish (R40). -/
inductive DeferredWrite where
  | learnedLoad (o : OutletIx)
  | energyClear (o : OutletIx)
deriving DecidableEq, Repr

/-- The 58 published reading records (R39, R40). -/
structure Records where
  strip : StripRecord
  phases : Vector PhaseRecord 3
  branches : Vector BranchRecord 6
  outlets : Vector OutletRecord 48
  /-- The count by which the publication in progress finishes. -/
  finishBy : Option Nat
  /-- The half-brackets that the publication in progress has made: the record of rank r is opened by half 2r,
  which makes its sequence word odd, and closed by half 2r + 1. -/
  turn : Nat
  /-- Writes that came while their record was being published, oldest first. -/
  deferred : List DeferredWrite
deriving DecidableEq, Repr

/-! ### Relay Controller (03) -/

/-- The positions of R47. -/
inductive Position where
  | unknown | open | closed | openUnverified | closedUnverified | faultStuckOpen | faultStuckClosed
deriving DecidableEq, Repr

/-- The qualified sense (R48). -/
inductive Sense where
  | unresolved | present | absent
deriving DecidableEq, Repr

/-- The direction of an operation. -/
inductive Direction where
  | open | close
deriving DecidableEq, Repr

/-- The origins of plans. -/
inductive Origin where
  | posted | group | watch | shed | restore | release | policy
deriving DecidableEq, Repr

/-- The stages of an operation in flight. -/
inductive Stage where
  | aiming | pulsing | settling | verifying | retryWait
deriving DecidableEq, Repr

/-- The aims of R53 to R55. -/
inductive Aim where
  | voltage | current | immediate
deriving DecidableEq, Repr

/-- The two attempts of an operation. -/
inductive Attempt where
  | first | second
deriving DecidableEq, Repr

/-- The results an operation end reports (R64). -/
inductive OpResult where
  | done | notVerified | failedToClose | failedToOpen | reset
deriving DecidableEq, Repr

/-- An operation context (R50), with what its stages keep. -/
structure Op where
  direction : Direction
  origin : Origin
  attempt : Attempt
  stage : Stage
  target : Option SlotIx
  aim : Aim
  pulseMs : Nat
  settleMs : Nat
  advance : Nat
  startSec : BitVec 32
  /-- The position at dispatch, which a warm reset in AIMING or RETRY_WAIT gives back (R68). -/
  dispatchPosition : Position
  /-- For a closing, the entry's entered-at time. -/
  enteredAt : BitVec 32
  /-- AIMING: the cycle starts since AIMING began, or since a deferred closing aimed again (R55, R56). -/
  cyclesSeen : Nat
  /-- AIMING: the moment to start the pulse has come (R55). -/
  pulseDue : Bool
  /-- AIMING: the pulse waits for a closing spacing (R56). -/
  deferred : Bool
  /-- PULSING: the pulse end. SETTLING and VERIFYING: the settle end. -/
  endsAt : Nat
  /-- VERIFYING: the slot starts since the settle end. -/
  slotStarts : Nat
  /-- VERIFYING: the post-settle samples taken. -/
  samples : Nat
  /-- VERIFYING: the asserted ones. -/
  asserted : Nat
  /-- VERIFYING: the unasserted ones since the last asserted one. -/
  quietRun : Nat
  /-- PULSING: a warm reset came during the pulse (R68). -/
  abandoned : Bool
deriving DecidableEq, Repr

/-- The relay status fields of the last operation (R47), absent before the first. -/
structure RelayStatus where
  direction : Option Direction := none
  origin : Option Origin := none
  attempt : Option Attempt := none
  aim : Option Aim := none
  startSec : BitVec 32 := 0
deriving DecidableEq, Repr

/-- One outlet's relay state. -/
structure RelayOutlet where
  position : Position := .unknown
  /-- The sense values of the last complete slots, newest first; its length is the fill count. -/
  history : List Bool := []
  sense : Sense := .unresolved
  op : Option Op := none
  status : RelayStatus := {}
deriving DecidableEq, Repr

/-! ### Switching Schedule (04) -/

/-- The wait reasons of R88. -/
inductive WaitReason where
  | none | stopped | branchDead | coil | spacing | load
deriving DecidableEq, Repr

/-- A schedule entry (R70). Times are values of the 32-bit strip milliseconds counter (R12). -/
structure Entry where
  direction : Direction
  origin : Origin
  /-- 0..3 for a closing, 0 highest; an opening is URGENT and does not use it. -/
  klass : Nat
  enteredAt : BitVec 32
  /-- Closings only (R89). -/
  deadline : BitVec 32
  /-- When the deadline was paused, while it is. -/
  pausedSince : Option (BitVec 32)
  wait : WaitReason
deriving DecidableEq, Repr

/-- An item of a recent-closings list (R85). -/
structure RecentClosing where
  outlet : OutletIx
  window : BitVec 32
  load : Nat
deriving DecidableEq, Repr

/-- What the schedule keeps for one branch. -/
structure SchedBranch where
  rank : Fin 6
  pointer : OutletIx
  lastStart : Option Nat := none
  holdOff : Option Nat := none
  recent : List RecentClosing := []
deriving DecidableEq, Repr

/-- The Switching Schedule's state. -/
structure Sched where
  entries : Vector (Option Entry) 48
  /-- Outlets in RETRY_WAIT, oldest first. -/
  retry : List OutletIx
  inAim : Option OutletIx
  branches : Vector SchedBranch 6
  lastStart : Option Nat
  holdOff : Option Nat
deriving DecidableEq, Repr

/-! ### Plan Unit (05) -/

/-- The kinds of plans. -/
inductive PlanKind where
  | on | off | cycle
deriving DecidableEq, Repr

/-- The steps of a plan (R96). -/
inductive PlanStep where
  | queuedOpen | opening | dwell | queuedClose | closing
deriving DecidableEq, Repr

/-- Results and refusal codes of the slots, as the code table numbers them. -/
inductive ResultCode where
  | none | done | doneNoChange | notVerified | cancelled | loadTimeout | failedToClose | failedToOpen | reset
  | notOn | fault | nothingToCancel | badKind | busy | groupDone
deriving DecidableEq, Repr

/-- The outcomes of a plan (R103). -/
inductive PlanOutcome where
  | done | doneNoChange | notVerified | cancelled | loadTimeout | failedToClose | failedToOpen | reset
  | superseded
deriving DecidableEq, Repr

/-- A plan (R96), with its held action. -/
structure Plan where
  kind : PlanKind
  origin : Origin
  step : PlanStep
  dwell : Nat
  /-- DWELL: the count at which dwell remaining reaches 0. -/
  dwellEnd : Nat
  tag : BitVec 8
  replaced : Option (Origin × PlanKind)
  openingUnverified : Bool
  groupMember : Bool
  /-- A cancel waits for the operation in flight to end (R109). -/
  heldCancel : Bool
  /-- A superseding OFF waits for the old plan's operation to end (R110). -/
  waiting : Bool
deriving DecidableEq, Repr

/-- The part-owned fields of an action slot that outlive the plan (R104). Status, step and wait reason
follow from the plan and the entry. -/
structure ActionSlot where
  /-- Set at the first plan or refused posting; a slot without a plan then reads ENDED. -/
  used : Bool := false
  origin : Option Origin := none
  /-- The kind code, or the value of an unknown kind as written. -/
  kind : Word := 0
  result : ResultCode := .none
  tag : BitVec 8 := 0
  endSec : BitVec 32 := 0
  replaced : Option (Origin × PlanKind) := none
  refusal : ResultCode := .none
  refusalTag : BitVec 8 := 0
deriving DecidableEq, Repr

/-- One outlet's plan and slot. -/
structure PlanOutlet where
  plan : Option Plan := none
  slot : ActionSlot := {}
deriving DecidableEq, Repr

/-- Slot status codes. -/
inductive SlotStatus where
  | empty | active | ended
deriving DecidableEq, Repr

/-- The strip slot and its group record (R113). The member set is the plans with group member set. -/
structure Group where
  status : SlotStatus := .empty
  kind : Word := 0
  result : ResultCode := .none
  members : BitVec 48 := 0
  requested : Nat := 0
  taken : Nat := 0
  busy : Nat := 0
  refused : Nat := 0
  done : Nat := 0
  failed : Nat := 0
  cancelled : Nat := 0
  endSec : BitVec 32 := 0
  refusal : ResultCode := .none
deriving DecidableEq, Repr

/-- The Plan Unit's state. -/
structure Plans where
  outlets : Vector PlanOutlet 48
  group : Group
  policyDone : Bool
deriving DecidableEq, Repr

/-! ### Branch Guard (06) -/

/-- The branch states. -/
inductive BranchState where
  | dead | returning | live | overload | shedding
deriving DecidableEq, Repr

/-- The shed phases. -/
inductive ShedPhase where
  | none | planRunning | stepping | noCandidate
deriving DecidableEq, Repr

/-- One branch's guard state. -/
structure GuardBranch where
  /-- The level of the branch-sense input. -/
  input : Bool := false
  /-- Debounced sense: present when set. -/
  debounced : Bool := false
  /-- The count at which the debounce timer started, while it runs. -/
  debounceFrom : Option Nat := none
  state : BranchState := .dead
  overloadRun : Nat := 0
  shedPhase : ShedPhase := .none
  shedOutlet : Option OutletIx := none
  stepCount : Nat := 0
  restoreHold : Option Nat := none
  /-- The count at which RETURNING was entered, while the return timer runs. -/
  returnFrom : Option Nat := none
deriving DecidableEq, Repr

/-- The two marks of an outlet (R140). -/
structure Marks where
  shed : Bool := false
  release : Bool := false
deriving DecidableEq, Repr

/-- The Branch Guard's state. -/
structure Guard where
  branches : Vector GuardBranch 6
  marks : Vector Marks 48
deriving DecidableEq, Repr

/-! ### Stall Watch (07) -/

/-- The watch states. -/
inductive WatchState where
  | disabled | idle | grace | watching | stalled | recovering | givenUp
deriving DecidableEq, Repr

/-- The resume states. -/
inductive Resume where
  | none | grace | watching | stalled
deriving DecidableEq, Repr

/-- The count holds of R151. -/
inductive CountHold where
  | none | standby | stale
deriving DecidableEq, Repr

/-- One outlet's watch. -/
structure OutletWatch where
  state : WatchState := .disabled
  resume : Resume := .none
  grace : Nat := 0
  quiet : Nat := 0
  healthy : Nat := 0
  attempts : Nat := 0
  hold : CountHold := .none
  lastKick : BitVec 32 := 0
deriving DecidableEq, Repr

/-- The Stall Watch's state. -/
structure Watch where
  outlets : Vector OutletWatch 48
  /-- The kick word's read value. -/
  kickWord : Word
deriving DecidableEq, Repr

/-! ### Capture Channel (08) -/

/-- The capture states. -/
inductive CaptureState where
  | idle | armed | running | done | aborted
deriving DecidableEq, Repr

/-- The end reasons of a capture. -/
inductive EndReason where
  | none | count | aborted | noTrigger | reset
deriving DecidableEq, Repr

/-- The sources of a capture. -/
inductive CaptureSource where
  | outlet | branch | phase
deriving DecidableEq, Repr

/-- The triggers of a capture. -/
inductive CaptureTrigger where
  | nextCycle | onOperation
deriving DecidableEq, Repr

/-- The taken request with its clamp flags (R166). -/
structure CaptureRequest where
  source : CaptureSource := .outlet
  index : Nat := 0
  cycles : Nat := 0
  trigger : CaptureTrigger := .nextCycle
  armTimeout : Nat := 0
  clamps : BitVec 5 := 0
deriving DecidableEq, Repr

/-- The Capture Channel's state. -/
structure Capture where
  state : CaptureState := .idle
  request : CaptureRequest := {}
  /-- The count at which the arm timer started, while it runs. -/
  armedFrom : Option Nat := none
  cyclesBegun : Nat := 0
  /-- The kind of the cycle in which the trigger fell, by which the first captured cycle is judged (R171). -/
  firstKind : CycleKind := .edge
  /-- The end reason a pending abort will give (R172, R174). -/
  abortPending : Option EndReason := none
  fill : Nat := 0
  missed : Nat := 0
  holdover : Bool := false
  endReason : EndReason := .none
  refusal : ResultCode := .none
deriving DecidableEq, Repr

/-! ### Notice Unit (10) and control port (09) -/

/-- One source's sets, condition records and re-raise timers. -/
structure Notice where
  pending : BitVec 8 := 0
  taken : BitVec 8 := 0
  /-- The condition records of the level causes. -/
  held : BitVec 8 := 0
  /-- The re-raise timers of the taken causes; 0 where none runs. -/
  timers : Vector Nat 8 := Vector.replicate 8 0
deriving DecidableEq, Repr

/-- Whether each flashing pattern is in the on part of its span (R195). -/
structure FlashPhases where
  locate : Bool := true
  fault : Bool := true
  stall : Bool := true
  plan : Bool := true
deriving DecidableEq, Repr

/-- The Notice Unit's state. -/
structure Notices where
  sources : Vector Notice 58
  branchRotation : BranchIx
  outletRotation : OutletIx
  /-- The count at which the attention pulse in progress ends. -/
  pulseUntil : Option Nat
  flash : FlashPhases
deriving DecidableEq, Repr

/-- The attention modes (R182, R192). -/
inductive AttentionMode where
  | levelLow | levelHigh | pulse
deriving DecidableEq, Repr

/-- The results of a service (R179). -/
inductive ServiceResult where
  | none | ok | clamped | badService
deriving DecidableEq, Repr

/-- What a service word keeps (R179). -/
structure Service where
  count : BitVec 8 := 0
  result : ServiceResult := .none
deriving DecidableEq, Repr

/-- The control port, and the service words and clamp flags of exchange memory. -/
structure Port where
  /-- The run state: RUNNING when set. -/
  running : Bool
  mode : AttentionMode
  /-- The value the last host read of POLL returned: the MODEL's own field (log 18). -/
  pollValue : Word
  outletService : Vector Service 48
  branchService : Vector Service 6
  stripService : Service
  outletClamps : Vector Word 48
  branchClamps : Vector Word 6
  stripClamps : Word
  phaseClamps : Word
deriving DecidableEq, Repr

/-! ### Applied settings -/

/-- The power-on policies (R118). -/
inductive PowerPolicy where
  | keep | on | off
deriving DecidableEq, Repr

/-- The applied copy of an outlet's settings, with the defaults of the owning chapters. -/
structure OutletSettings where
  currentGain : Nat := 32768
  currentLimit : Nat := 16000
  expectedLoad : Nat := 0
  coilPulse : Nat := 15
  settle : Nat := 20
  advance : Nat := 16
  priority : Nat := 2
  offDwell : Nat := 10
  policy : PowerPolicy := .keep
  shedRank : Nat := 0
  watchEnable : Bool := false
  autoRecover : Bool := true
  releaseFlag : Bool := true
  locate : Bool := false
  attemptLimit : Nat := 2
  bootGrace : Nat := 180
  quietLimit : Nat := 300
  activityBand : Nat := 20
  standbyFloor : Nat := 50
  recoverySpan : Nat := 3600
  enable : BitVec 8 := 0xFF
deriving DecidableEq, Repr

/-- The applied copy of a branch's settings. `lowPresent` is polarity LOW_PRESENT, `releasePolicy` is loss
policy RELEASE; the debounce is in ms. -/
structure BranchSettings where
  currentGain : Nat := 32768
  rated : Nat := 16000
  admission : Nat := 80
  overload : Nat := 100
  restore : Nat := 70
  persistence : Nat := 5
  shedStep : Nat := 3
  releasePolicy : Bool := false
  lowPresent : Bool := false
  debounceMs : Nat := 20
  spacing : Nat := 250
  restoreDelay : Nat := 30
  returnDelay : Nat := 5
  enable : BitVec 8 := 0xFF
deriving DecidableEq, Repr

/-- The applied copy of a phase's settings. -/
structure PhaseSettings where
  presence : Nat := 9000
  voltageGain : Nat := 32768
  undervoltage : Nat := 19500
  overvoltage : Nat := 26500
deriving DecidableEq, Repr

/-- The applied copy of the strip settings. The default enable set has every bit set, those that name no cause
among them (DESIGN CHOICE, log 21). -/
structure StripSettings where
  creep : Nat := 20
  neutralLimit : Nat := 32000
  defaultLoad : Nat := 500
  spacing : Nat := 100
  admissionTimeout : Nat := 60
  reRaise : Nat := 60
  enable : BitVec 8 := 0xFF
deriving DecidableEq, Repr

/-- The applied copies of every record (R181). -/
structure Settings where
  outlets : Vector OutletSettings 48
  branches : Vector BranchSettings 6
  phases : Vector PhaseSettings 3
  strip : StripSettings
deriving DecidableEq, Repr

/-- What a tick has found due and its own step has not yet taken (R154 to R156, R190). -/
inductive TickEvent where
  | graceEnd (o : OutletIx)
  | recoverySpan (o : OutletIx)
  | stall (o : OutletIx)
  | reRaise (source : SourceIx) (bit : CauseBit)
deriving DecidableEq, Repr

end Sys2Proof.Machine

namespace Sys2Proof.Machine

/-- The state of the part. -/
structure State where
  /-- Counts of the reference clock since the release of power-on reset, unwrapped (DESIGN CHOICE, log 10). -/
  now : Nat
  /-- The reset pin is held asserted (R185). -/
  resetHeld : Bool
  line : Line
  meter : Meter
  records : Records
  relay : Vector RelayOutlet 48
  sched : Sched
  plans : Plans
  guard : Guard
  watch : Watch
  capture : Capture
  notices : Notices
  port : Port
  settings : Settings
  /-- The stored words of exchange memory: the host-owned fields and the capture area. -/
  xm : Memory
  /-- The tick's events that wait for their own step: the MODEL's own field (log 7). -/
  tickDue : List TickEvent
  /-- The commands that wait, first in, first out: the MODEL's own field (log 1). -/
  pending : List Instr
deriving DecidableEq, Repr

/-- The machine right after the release of power-on reset with every branch-sense input low: each block's
state table, then R18's first cycle, slot and window, R94's ranks and pointers, R144 and R193's pending
BRANCH_DEAD of all six branches, and R185's zeroed exchange memory (DESIGN CHOICE, log 3). -/
def State.reset : State where
  now := 0
  resetHeld := false
  line :=
    { tracker := .searching
      period := Config.initialPeriod
      edgeRef := none
      prevCandidate := none
      lockRun := 0
      rejectRun := 0
      deadline := none
      cycleStart := 0
      cycleNo := 1
      cycleKind := .freeRun
      nextSlot := 1
      inFlight := some { slot := 0, startAt := 0, captured := false }
      prevSamples := none
      seconds := 0
      nextTick := Config.countsPerSecond
      closePending := none
      windowIndex := 0
      windowOpened := 0
      voltage := Vector.replicate 3 {}
      current := Vector.replicate 48 none
      present := Vector.replicate 3 false
      stale := false
      missedRun := 0 }
  meter :=
    { outlets := Vector.replicate 48 {}
      branches := Vector.replicate 6 {}
      phases := Vector.replicate 3 {}
      sNN := 0
      n := 0
      neutral := 0
      totalPower := 0
      lastClose := {} }
  records :=
    { strip := {}
      phases := Vector.replicate 3 {}
      branches := Vector.replicate 6 {}
      outlets := Vector.replicate 48 {}
      finishBy := none
      turn := 0
      deferred := [] }
  relay := Vector.replicate 48 {}
  sched :=
    { entries := Vector.replicate 48 none
      retry := []
      inAim := none
      branches := #v[{ rank := 5, pointer := 7 }, { rank := 4, pointer := 15 }, { rank := 3, pointer := 23 },
        { rank := 2, pointer := 31 }, { rank := 1, pointer := 39 }, { rank := 0, pointer := 47 }]
      lastStart := none
      holdOff := none }
  plans :=
    { outlets := Vector.replicate 48 {}
      group := {}
      policyDone := false }
  guard :=
    { branches := Vector.replicate 6 {}
      marks := Vector.replicate 48 {} }
  watch :=
    { outlets := Vector.replicate 48 {}
      kickWord := 0 }
  capture := {}
  notices :=
    { sources := Vector.ofFn fun i : Fin 58 =>
        if 4 ≤ i.val ∧ i.val ≤ 9 then { pending := 4, held := 4 } else {}
      branchRotation := 5
      outletRotation := 47
      pulseUntil := none
      flash := {} }
  port :=
    { running := false
      mode := .levelLow
      pollValue := 0
      outletService := Vector.replicate 48 {}
      branchService := Vector.replicate 6 {}
      stripService := {}
      outletClamps := Vector.replicate 48 0
      branchClamps := Vector.replicate 6 0
      stripClamps := 0
      phaseClamps := 0 }
  settings :=
    { outlets := Vector.replicate 48 {}
      branches := Vector.replicate 6 {}
      phases := Vector.replicate 3 {}
      strip := {} }
  xm := []
  tickDue := []
  pending := []

end Sys2Proof.Machine
end

