-- ==== Sys2Proof/Machine/Flags.lean ====
section
/-! DEFINITION. The cause bits of the POLL table, the level causes of each class of source, and the code
tables of 09_exchange_memory_and_control_port.md. -/

namespace Sys2Proof.Machine

/-! ### Causes (POLL value table) -/

def causeStripRefused : CauseBit := 0
def causeGroupDone : CauseBit := 1
def causeCaptureEnded : CauseBit := 2
def causeNeutralHigh : CauseBit := 3
def causeLineHoldover : CauseBit := 4
def causeConverterStale : CauseBit := 5
def causePhaseAbsent : CauseBit := 0
def causeUndervolt : CauseBit := 1
def causeOvervolt : CauseBit := 2
def causeBranchOverload : CauseBit := 0
def causeOverloadUnresolved : CauseBit := 1
def causeBranchDead : CauseBit := 2
def causeOpDone : CauseBit := 0
def causeOpRefused : CauseBit := 1
def causeRelayFault : CauseBit := 2
def causeShed : CauseBit := 3
def causeStall : CauseBit := 4
def causeGaveUp : CauseBit := 5
def causeEnergySaturated : CauseBit := 6
def causeOvercurrent : CauseBit := 7

/-- The set of one cause. -/
def causeMask (c : CauseBit) : BitVec 8 := BitVec.ofNat 8 (2 ^ c.val)

/-- The level causes of a source, by its class (the cause table of chapter 10). -/
def levelMask (src : SourceIx) : BitVec 8 :=
  if src.val = 0 then 0x38 else if src.val ≤ 9 then 0x07 else 0x80

/-! ### Codes -/

def resultWord : ResultCode → Word
  | .none => 0 | .done => 1 | .doneNoChange => 2 | .notVerified => 3 | .cancelled => 4 | .loadTimeout => 5
  | .failedToClose => 6 | .failedToOpen => 7 | .reset => 8 | .notOn => 9 | .fault => 10
  | .nothingToCancel => 11 | .badKind => 12 | .busy => 13 | .groupDone => 14

/-- The result a plan outcome writes into the slot; SUPERSEDED is not written (R103). -/
def outcomeResult : PlanOutcome → ResultCode
  | .done => .done | .doneNoChange => .doneNoChange | .notVerified => .notVerified
  | .cancelled => .cancelled | .loadTimeout => .loadTimeout | .failedToClose => .failedToClose
  | .failedToOpen => .failedToOpen | .reset => .reset | .superseded => .none

/-- The plan outcome that an operation's result ends a plan with (R98). -/
def opOutcome : OpResult → PlanOutcome
  | .done => .done | .notVerified => .notVerified | .failedToClose => .failedToClose
  | .failedToOpen => .failedToOpen | .reset => .reset

def kindWord : PlanKind → Word
  | .on => 1 | .off => 2 | .cycle => 3

/-- The posting kind that a written value names, when it names a plan kind. -/
def kindOfWord (v : Word) : Option PlanKind :=
  if v = 1 then some .on else if v = 2 then some .off else if v = 3 then some .cycle else none

/-- The value that names CANCEL. -/
def cancelWord : Word := 4

def originWord : Origin → Word
  | .posted => 1 | .group => 2 | .watch => 3 | .shed => 4 | .restore => 5 | .release => 6 | .policy => 7

def stepWord : PlanStep → Word
  | .queuedOpen => 1 | .opening => 2 | .dwell => 3 | .queuedClose => 4 | .closing => 5

def waitWord : WaitReason → Word
  | .none => 0 | .stopped => 1 | .branchDead => 2 | .coil => 3 | .spacing => 4 | .load => 5

def positionWord : Position → Word
  | .unknown => 0 | .open => 1 | .closed => 2 | .openUnverified => 3 | .closedUnverified => 4
  | .faultStuckOpen => 5 | .faultStuckClosed => 6

def senseWord : Sense → Word
  | .unresolved => 0 | .present => 1 | .absent => 2

def stageWord : Stage → Word
  | .aiming => 1 | .pulsing => 2 | .settling => 3 | .verifying => 4 | .retryWait => 5

def directionWord : Direction → Word
  | .open => 1 | .close => 2

def aimWord : Aim → Word
  | .voltage => 1 | .current => 2 | .immediate => 3

def attemptWord : Attempt → Word
  | .first => 1 | .second => 2

def statusWord : SlotStatus → Word
  | .empty => 0 | .active => 1 | .ended => 2

def watchWord : WatchState → Word
  | .disabled => 0 | .idle => 1 | .grace => 2 | .watching => 3 | .stalled => 4 | .recovering => 5
  | .givenUp => 6

def resumeWord : Resume → Word
  | .none => 0 | .grace => 1 | .watching => 2 | .stalled => 3

def holdWord : CountHold → Word
  | .none => 0 | .standby => 1 | .stale => 2

def branchStateWord : BranchState → Word
  | .dead => 0 | .returning => 1 | .live => 2 | .overload => 3 | .shedding => 4

def shedPhaseWord : ShedPhase → Word
  | .none => 0 | .planRunning => 1 | .stepping => 2 | .noCandidate => 3

def trackerWord : Tracker → Word
  | .searching => 0 | .locked => 1 | .holdover => 2

def captureStateWord : CaptureState → Word
  | .idle => 0 | .armed => 1 | .running => 2 | .done => 3 | .aborted => 4

def endReasonWord : EndReason → Word
  | .none => 0 | .count => 1 | .aborted => 2 | .noTrigger => 3 | .reset => 4

def captureSourceWord : CaptureSource → Word
  | .outlet => 0 | .branch => 1 | .phase => 2

def captureTriggerWord : CaptureTrigger → Word
  | .nextCycle => 0 | .onOperation => 1

def serviceResultWord : ServiceResult → Word
  | .none => 0 | .ok => 1 | .clamped => 2 | .badService => 3

def modeBits : AttentionMode → Nat
  | .levelLow => 0 | .levelHigh => 1 | .pulse => 2

/-- The attention mode bits of a CONTROL write: code 3 is taken as PULSE (R182). -/
def modeOfWord (v : Word) : AttentionMode :=
  match v.getLsbD 3, v.getLsbD 2 with
  | false, false => .levelLow
  | false, true => .levelHigh
  | true, _ => .pulse

def policyWord : PowerPolicy → Word
  | .keep => 0 | .on => 1 | .off => 2

/-- The direction of a plan's queued step, when it has one. -/
def isQueued : PlanStep → Bool
  | .queuedOpen | .queuedClose => true
  | .opening | .dwell | .closing => false

/-- A position that "is closed" (R47). -/
def isClosed : Position → Bool
  | .closed | .closedUnverified => true
  | .unknown | .open | .openUnverified | .faultStuckOpen | .faultStuckClosed => false

/-- A position that "is open" (R47). -/
def isOpen : Position → Bool
  | .open | .openUnverified => true
  | .unknown | .closed | .closedUnverified | .faultStuckOpen | .faultStuckClosed => false

/-- A FAULT position (R65). -/
def isFault : Position → Bool
  | .faultStuckOpen | .faultStuckClosed => true
  | .unknown | .open | .closed | .openUnverified | .closedUnverified => false

/-- A position that a resolution may set (R49). -/
def isResolvable : Position → Bool
  | .unknown | .openUnverified | .closedUnverified => true
  | .open | .closed | .faultStuckOpen | .faultStuckClosed => false

/-- The commanded position, unverified (R59, R68). -/
def unverified : Direction → Position
  | .open => .openUnverified
  | .close => .closedUnverified

/-- The verified position of a direction (R61). -/
def verified : Direction → Position
  | .open => .open
  | .close => .closed

/-- The position and the result of a second attempt that did not move the sense (R63). -/
def failedPosition : Direction → Position
  | .open => .faultStuckClosed
  | .close => .faultStuckOpen

def failedResult : Direction → OpResult
  | .open => .failedToOpen
  | .close => .failedToClose

end Sys2Proof.Machine
end

