-- ==== Sys2Proof/Machine/Operands.lean ====
section
/-! DEFINITION. The arithmetic of 00_scope.md, "Arithmetic and notation conventions", and the bit fields of
host words. -/

namespace Sys2Proof.Machine

/-- `round(a / b)` of non-negative numbers, half up. -/
def roundDiv (a b : Nat) : Nat := (2 * a + b) / (2 * b)

/-- `round(a / b)` of a signed number, half away from zero. -/
def roundDivInt (a : Int) (b : Nat) : Int :=
  if a < 0 then -(roundDiv a.natAbs b : Int) else (roundDiv a.natAbs b : Int)

/-- `a / b` truncated toward zero. -/
def truncDiv (a : Int) (b : Nat) : Int := Int.tdiv a (b : Int)

/-- The root found so far, extended by the bits below `k`. -/
def isqrtFrom (x : Nat) : Nat → Nat → Nat
  | 0, r => r
  | k + 1, r => isqrtFrom x k (if (r + 2 ^ k) * (r + 2 ^ k) ≤ x then r + 2 ^ k else r)

/-- `isqrt x`, the largest r with r² ≤ x. -/
def isqrt (x : Nat) : Nat := isqrtFrom x (x.log2 / 2 + 1) 0

/-- Clamp a number to a range. -/
def clamp (lo hi v : Nat) : Nat := max lo (min hi v)

/-- The lower byte of a word as a number. -/
def loByte (w : Word) : Nat := (w.extractLsb' 0 8).toNat

/-- The upper byte of a word as a number. -/
def hiByte (w : Word) : Nat := (w.extractLsb' 8 8).toNat

/-- A word from two bytes' values. -/
def bytesWord (hi lo : Nat) : Word := BitVec.ofNat 8 hi ++ BitVec.ofNat 8 lo

/-- A word from a number. -/
def natWord (n : Nat) : Word := BitVec.ofNat 16 n

/-- The less significant word of a two-word field. -/
def lowWord (n : Nat) : Word := BitVec.ofNat 16 n

/-- The more significant word of a two-word field. -/
def highWord (n : Nat) : Word := BitVec.ofNat 16 (n / 65536)

/-- The word of a flag. -/
def boolWord (b : Bool) : Word := if b then 1 else 0

/-- The flags of a list as the bits of a word, the first at bit 0. -/
def flagWord : List Bool → Nat
  | [] => 0
  | b :: bs => (if b then 1 else 0) + 2 * flagWord bs

/-- The number of set bits among the first `k`. -/
def popCount (v : BitVec 48) : Nat := (allOutlets.filter fun o => v.getLsbD o.val).length

/-- The best item of a list: the first one that no later item beats. -/
def bestBy {α : Type} (beats : α → α → Bool) : List α → Option α
  | [] => none
  | a :: rest =>
    match bestBy beats rest with
    | none => some a
    | some b => if beats b a then some b else some a

/-- A signed sample as an integer. -/
def sampleInt (w : Word) : Int := w.toInt

/-- The voltage sample of a phase in a frame (R9). -/
def voltageSample (v : Vector Word 51) (p : PhaseIx) : Int := (v[p.val]'(by omega)).toInt

/-- The current sample of an outlet in a frame (R9). -/
def currentSample (v : Vector Word 51) (o : OutletIx) : Int := (v[3 + o.val]'(by omega)).toInt

/-- The sum of the current samples of a list of outlets. -/
def currentSum (v : Vector Word 51) (os : List OutletIx) : Int :=
  os.foldl (fun acc o => acc + currentSample v o) 0

/-- The branch sum s_b (R20). -/
def branchSum (v : Vector Word 51) (b : BranchIx) : Int := currentSum v (outletsOf b)

/-- The phase sum s_p, the sum of its two branch sums (R20). -/
def phaseSum (v : Vector Word 51) (p : PhaseIx) : Int :=
  branchSum v ⟨2 * p.val, by omega⟩ + branchSum v ⟨2 * p.val + 1, by omega⟩

/-- The neutral sum s_n of all 48 current samples (R20). -/
def neutralSum (v : Vector Word 51) : Int := currentSum v allOutlets

end Sys2Proof.Machine
end

