-- ==== Sys2Proof/Machine/Memory.lean ====
section
/-! DEFINITION. Exchange memory as stored bytes: reads, writes, and the canonical form. It holds the
host-owned fields and the capture area; every other word is a view of the state (Machine/Layout.lean). -/

namespace Sys2Proof.Machine

/-- One byte: what the list holds, or what an unwritten byte reads as (R185) (DESIGN CHOICE, log 4). -/
def Memory.read : Memory → Nat → Byte
  | [], _ => Config.unwrittenByte
  | (k, v) :: m, a => if k = a then v else Memory.read m a

/-- Store one byte. Storing what an unlisted byte reads as removes the entry. -/
def Memory.write : Memory → Nat → Byte → Memory
  | [], a, b => if b = Config.unwrittenByte then [] else [(a, b)]
  | (k, v) :: m, a, b =>
    if a < k then if b = Config.unwrittenByte then (k, v) :: m else (a, b) :: (k, v) :: m
    else if a = k then if b = Config.unwrittenByte then m else (a, b) :: m
    else (k, v) :: Memory.write m a b

/-- Every address of the list lies above `a`, the addresses rise strictly, and no entry reads as an
unlisted byte. -/
def Memory.wfAbove : Memory → Nat → Bool
  | [], _ => true
  | (k, v) :: m, a => a < k && v != Config.unwrittenByte && Memory.wfAbove m k

/-- The canonical form. -/
def Memory.wf : Memory → Bool
  | [] => true
  | (k, v) :: m => v != Config.unwrittenByte && Memory.wfAbove m k

/-- A word at an even byte offset: the byte at the lower offset is its lower byte. -/
def Memory.word (m : Memory) (off : Nat) : Word := Memory.read m (off + 1) ++ Memory.read m off

/-- Store a word at an even byte offset. -/
def Memory.setWord (m : Memory) (off : Nat) (w : Word) : Memory :=
  Memory.write (Memory.write m off (w.extractLsb' 0 8)) (off + 1) (w.extractLsb' 8 8)

/-- A two-word field, the less significant word at the lower offset. -/
def Memory.dword (m : Memory) (off : Nat) : Nat :=
  (Memory.word m off).toNat + 65536 * (Memory.word m (off + 2)).toNat

/-- The record bases of R175. -/
def outletBase (o : OutletIx) : Nat := 0x400 + 128 * o.val
def branchBase (b : BranchIx) : Nat := 0x200 + 64 * b.val
def phaseBase (p : PhaseIx) : Nat := 0x100 + 64 * p.val

/-- The host-owned offsets within each record, by the layout tables. -/
def hostOwnedStrip (r : Nat) : Bool :=
  (0x36 ≤ r && r ≤ 0x43) || (0x5C ≤ r && r ≤ 0x63) || (0x7C ≤ r && r ≤ 0x85)
def hostOwnedPhase (r : Nat) : Bool := 0x16 ≤ r && r ≤ 0x1D
def hostOwnedBranch (r : Nat) : Bool := 0x28 ≤ r && r ≤ 0x3B
def hostOwnedOutlet (r : Nat) : Bool := (0x42 ≤ r && r ≤ 0x45) || (0x5E ≤ r && r ≤ 0x7B)

/-- Whether the word at a byte offset is host-owned (R176). -/
def hostOwned (off : Nat) : Bool :=
  if off < 0x100 then hostOwnedStrip off
  else if off < 0x1C0 then hostOwnedPhase ((off - 0x100) % 64)
  else if off < 0x200 then false
  else if off < 0x380 then hostOwnedBranch ((off - 0x200) % 64)
  else if off < 0x400 then false
  else if off < 0x1C00 then hostOwnedOutlet ((off - 0x400) % 128)
  else false

end Sys2Proof.Machine
end

