-- ==== Sys2Proof/Machine/Ops.lean ====
section
/-! DEFINITION. The named reads and updates of State that every block's rules are written with. Each update
touches one field of State. -/

namespace Sys2Proof.Machine

/-! ### Updates of one block -/

def State.updLine (s : State) (f : Line → Line) : State := { s with line := f s.line }
def State.updMeter (s : State) (f : Meter → Meter) : State := { s with meter := f s.meter }
def State.updRecords (s : State) (f : Records → Records) : State := { s with records := f s.records }
def State.updSched (s : State) (f : Sched → Sched) : State := { s with sched := f s.sched }
def State.updPlans (s : State) (f : Plans → Plans) : State := { s with plans := f s.plans }
def State.updGuard (s : State) (f : Guard → Guard) : State := { s with guard := f s.guard }
def State.updWatch (s : State) (f : Watch → Watch) : State := { s with watch := f s.watch }
def State.updCapture (s : State) (f : Capture → Capture) : State := { s with capture := f s.capture }
def State.updNotices (s : State) (f : Notices → Notices) : State := { s with notices := f s.notices }
def State.updPort (s : State) (f : Port → Port) : State := { s with port := f s.port }
def State.updSettings (s : State) (f : Settings → Settings) : State := { s with settings := f s.settings }

/-- One outlet's relay state. -/
def State.updRelay (s : State) (o : OutletIx) (f : RelayOutlet → RelayOutlet) : State :=
  { s with relay := upd s.relay o f }

/-! ### Updates of one entry of a block -/

def State.setEntry (s : State) (o : OutletIx) (e : Option Entry) : State :=
  s.updSched fun x => { x with entries := upd x.entries o fun _ => e }

def State.updSchedBranch (s : State) (b : BranchIx) (f : SchedBranch → SchedBranch) : State :=
  s.updSched fun x => { x with branches := upd x.branches b f }

def State.setPlan (s : State) (o : OutletIx) (p : Option Plan) : State :=
  s.updPlans fun x => { x with outlets := upd x.outlets o fun y => { y with plan := p } }

def State.updSlot (s : State) (o : OutletIx) (f : ActionSlot → ActionSlot) : State :=
  s.updPlans fun x => { x with outlets := upd x.outlets o fun y => { y with slot := f y.slot } }

def State.updGroup (s : State) (f : Group → Group) : State :=
  s.updPlans fun x => { x with group := f x.group }

def State.updBranch (s : State) (b : BranchIx) (f : GuardBranch → GuardBranch) : State :=
  s.updGuard fun x => { x with branches := upd x.branches b f }

def State.updMarks (s : State) (o : OutletIx) (f : Marks → Marks) : State :=
  s.updGuard fun x => { x with marks := upd x.marks o f }

def State.updOutletWatch (s : State) (o : OutletIx) (f : OutletWatch → OutletWatch) : State :=
  s.updWatch fun x => { x with outlets := upd x.outlets o f }

def State.updNotice (s : State) (src : SourceIx) (f : Notice → Notice) : State :=
  s.updNotices fun x => { x with sources := upd x.sources src f }

def State.updOutletMeter (s : State) (o : OutletIx) (f : OutletMeter → OutletMeter) : State :=
  s.updMeter fun x => { x with outlets := upd x.outlets o f }

def State.updOutletRecord (s : State) (o : OutletIx) (f : OutletRecord → OutletRecord) : State :=
  s.updRecords fun x => { x with outlets := upd x.outlets o f }

def State.setOp (s : State) (o : OutletIx) (op : Option Op) : State :=
  s.updRelay o fun r => { r with op := op }

def State.setPosition (s : State) (o : OutletIx) (p : Position) : State :=
  s.updRelay o fun r => { r with position := p }

/-! ### Reads -/

def State.position (s : State) (o : OutletIx) : Position := s.relay[o].position
def State.op (s : State) (o : OutletIx) : Option Op := s.relay[o].op
def State.entry (s : State) (o : OutletIx) : Option Entry := s.sched.entries[o]
def State.plan (s : State) (o : OutletIx) : Option Plan := s.plans.outlets[o].plan
def State.slot (s : State) (o : OutletIx) : ActionSlot := s.plans.outlets[o].slot
def State.gbranch (s : State) (b : BranchIx) : GuardBranch := s.guard.branches[b]
def State.sbranch (s : State) (b : BranchIx) : SchedBranch := s.sched.branches[b]
def State.marks (s : State) (o : OutletIx) : Marks := s.guard.marks[o]
def State.owatch (s : State) (o : OutletIx) : OutletWatch := s.watch.outlets[o]
def State.notice (s : State) (src : SourceIx) : Notice := s.notices.sources[src]
def State.ometer (s : State) (o : OutletIx) : OutletMeter := s.meter.outlets[o]
def State.bmeter (s : State) (b : BranchIx) : BranchMeter := s.meter.branches[b]
def State.pmeter (s : State) (p : PhaseIx) : PhaseMeter := s.meter.phases[p]
def State.ocfg (s : State) (o : OutletIx) : OutletSettings := s.settings.outlets[o]
def State.bcfg (s : State) (b : BranchIx) : BranchSettings := s.settings.branches[b]
def State.pcfg (s : State) (p : PhaseIx) : PhaseSettings := s.settings.phases[p]

/-- The state of an outlet's branch. -/
def State.branchStateOf (s : State) (o : OutletIx) : BranchState := (s.gbranch (branchOf o)).state

/-- A branch is LIVE. -/
def State.isLive (s : State) (b : BranchIx) : Bool := (s.gbranch b).state == .live

/-- The strip milliseconds counter: 32 bits, from the release of power-on reset, wrapping to 0 (R12). -/
def State.ms (s : State) : BitVec 32 := BitVec.ofNat 32 (s.now / Config.countsPerMs)

/-- The strip milliseconds since a counter value, across a wrap of the counter (DESIGN CHOICE, log 10). -/
def State.msSince (s : State) (t : BitVec 32) : Nat := (s.ms - t).toNat

/-- Strip milliseconds have reached a counter value: it lies less than half the counter's range back
(DESIGN CHOICE, log 10). -/
def State.msReached (s : State) (t : BitVec 32) : Bool := decide (s.msSince t < 2147483648)

/-- The corrected sense: the input after the applied polarity (R122). -/
def State.corrected (s : State) (b : BranchIx) : Bool := (s.gbranch b).input != (s.bcfg b).lowPresent

/-- Fold an update over a list of indexes, in order. -/
def forAll {α : Type} (xs : List α) (f : α → State → State) (s : State) : State :=
  xs.foldl (fun t x => f x t) s

end Sys2Proof.Machine
end

