-- ==== Sys2Proof/Machine/Notices.lean ====
section
/-! DEFINITION. The Notice Unit: pending and taken sets, condition records, re-raise timers, POLL, and the
attention line (10_notices_attention_line_and_indicators.md, R186 to R194). -/

namespace Sys2Proof.Machine

/-- The rank of a source decides its class; outlets start at rank 10. -/
def enableOf (s : State) (src : SourceIx) : BitVec 8 :=
  if src.val = 0 then s.settings.strip.enable
  else if src.val < 4 then 0xFF
  else if h : src.val < 10 then (s.bcfg ⟨src.val - 4, by omega⟩).enable
  else (s.ocfg ⟨src.val - 10, by omega⟩).enable

/-- Whether a cause of a source is enabled (R191). -/
def causeEnabled (s : State) (src : SourceIx) (c : CauseBit) : Bool := (enableOf s src).getLsbD c.val

/-- A source's enabled pending causes. -/
def countedCauses (s : State) (src : SourceIx) : BitVec 8 := (s.notice src).pending &&& enableOf s src

/-- A source is a candidate when at least one pending cause is enabled (R189). -/
def isCandidate (s : State) (src : SourceIx) : Bool := countedCauses s src != 0

/-- The number of sources with enabled pending causes, as STATUS shows it (R182). -/
def candidateCount (s : State) : Nat := (allSources.filter fun src => isCandidate s src).length

/-- Start or restart an attention pulse (R192). -/
def startPulse (s : State) : State :=
  s.updNotices fun x => { x with pulseUntil := some (s.now + Config.attentionPulse) }

/-- An enabled cause has become pending: in PULSE mode that makes a pulse (R192). -/
def notifyPending (src : SourceIx) (c : CauseBit) (s : State) : State :=
  if s.port.mode = .pulse ∧ causeEnabled s src c then startPulse s else s

/-- Make a cause pending when it is not (R187). -/
def becomePending (src : SourceIx) (c : CauseBit) (s : State) : State :=
  if (s.notice src).pending.getLsbD c.val then s
  else notifyPending src c (s.updNotice src fun n => { n with pending := n.pending ||| causeMask c })

/-- Raise an edge cause (R187). -/
def raiseEdge (src : SourceIx) (c : CauseBit) (s : State) : State := becomePending src c s

/-- A condition has begun to hold (R188). -/
def conditionBegins (src : SourceIx) (c : CauseBit) (s : State) : State :=
  becomePending src c (s.updNotice src fun n => { n with held := n.held ||| causeMask c })

/-- A condition has ended: the cause leaves whichever set holds it (R188). -/
def conditionEnds (src : SourceIx) (c : CauseBit) (s : State) : State :=
  s.updNotice src fun n =>
    { n with
      held := n.held &&& ~~~causeMask c
      pending := n.pending &&& ~~~causeMask c
      taken := n.taken &&& ~~~causeMask c
      timers := upd n.timers c fun _ => 0 }

/-- An owner hands over the condition of a level cause; only a change of the record acts (R188). -/
def setCondition (src : SourceIx) (c : CauseBit) (holds : Bool) (s : State) : State :=
  match (s.notice src).held.getLsbD c.val, holds with
  | false, true => conditionBegins src c s
  | true, false => conditionEnds src c s
  | true, true => s
  | false, false => s

/-- A taken cause is pending again and its timer stops (R190). -/
def reRaiseCause (src : SourceIx) (c : CauseBit) (s : State) : State :=
  if (s.notice src).taken.getLsbD c.val then
    becomePending src c <| s.updNotice src fun n =>
      { n with taken := n.taken &&& ~~~causeMask c, timers := upd n.timers c fun _ => 0 }
  else s

/-- One re-raise timer at a tick: it counts while its cause is taken (R190). -/
def countTimer (n : Notice) (c : CauseBit) : Notice :=
  if n.taken.getLsbD c.val then
    { n with timers := upd n.timers c fun t => min Config.reRaiseMax (t + 1) }
  else n

/-- All cause bits. -/
def allCauses : List CauseBit := List.finRange 8

/-- The re-raise timers of one source at a tick. -/
def countTimers (n : Notice) : Notice := allCauses.foldl countTimer n

/-- The causes of one source whose timer has reached the applied interval (R190). -/
def dueReRaises (s : State) (src : SourceIx) : List TickEvent :=
  (allCauses.filter fun c =>
    (s.notice src).taken.getLsbD c.val && decide (s.settings.strip.reRaise ≤ (s.notice src).timers[c])).map
    fun c => .reRaise src c

/-- The re-raise timers of every source at a tick, and the causes then due. -/
def tickNotices (s : State) : State :=
  let t := s.updNotices fun x => { x with sources := mapAll countTimers x.sources }
  { t with tickDue := t.tickDue ++ allSources.flatMap fun src => dueReRaises t src }

/-- The branches in POLL order, from the one after the rotation position (R189). -/
def branchOrder (r : BranchIx) : List BranchIx := allBranches.map fun i => r + 1 + i

/-- The outlets in POLL order, from the one after the rotation position (R189). -/
def outletOrder (r : OutletIx) : List OutletIx := allOutlets.map fun i => r + 1 + i

/-- The sources in the order in which a POLL read examines them (R189). -/
def pollOrder (s : State) : List SourceIx :=
  stripSource :: allPhases.map phaseSource ++ (branchOrder s.notices.branchRotation).map branchSource
    ++ (outletOrder s.notices.outletRotation).map outletSource

/-- The source that a POLL read chooses (R189). -/
def pollChoice (s : State) : Option SourceIx := (pollOrder s).find? fun src => isCandidate s src

/-- The POLL value of a chosen source (R189): valid, the rank, the enabled pending causes. -/
def pollValueOf (s : State) (src : SourceIx) : Word :=
  0x8000#16 ||| BitVec.ofNat 16 (src.val * 256) ||| (countedCauses s src).zeroExtend 16

/-- The returned causes leave the pending set; the level causes among them become taken, timers at 0. -/
def takeCauses (got : BitVec 8) (level : BitVec 8) (n : Notice) : Notice :=
  { n with
    pending := n.pending &&& ~~~got
    taken := n.taken ||| (got &&& level)
    timers := Vector.ofFn fun c : Fin 8 => if (got &&& level).getLsbD c.val then 0 else n.timers[c] }

/-- The rotation position of the chosen source's class becomes the chosen source (R189). -/
def rotateTo (src : SourceIx) (x : Notices) : Notices :=
  if src.val < 4 then x
  else if h : src.val < 10 then { x with branchRotation := ⟨src.val - 4, by omega⟩ }
  else { x with outletRotation := ⟨src.val - 10, by omega⟩ }

/-- A host read of POLL (R189). -/
def pollTake (s : State) : State :=
  match pollChoice s with
  | none => s.updPort fun p => { p with pollValue := 0 }
  | some src =>
    let got := countedCauses s src
    let v := pollValueOf s src
    ((s.updNotice src (takeCauses got (levelMask src))).updNotices (rotateTo src)).updPort
      fun p => { p with pollValue := v }

/-- An APPLY that changes the enable set of a source from `old`: in PULSE mode it makes one pulse if it has
enabled at least one pending cause (R191, R192). -/
def enableChanged (src : SourceIx) (old : BitVec 8) (s : State) : State :=
  if s.port.mode = .pulse ∧ (s.notice src).pending &&& enableOf s src &&& ~~~old ≠ 0 then startPulse s else s

/-- A CONTROL write selects the attention mode (R192). A change from PULSE ends a pulse in progress; a change
to PULSE makes none. -/
def setMode (m : AttentionMode) (s : State) : State :=
  if s.port.mode = m then s
  else { s with port := { s.port with mode := m }, notices := { s.notices with pulseUntil := none } }

/-- The attention line is asserted (R192): in the level modes exactly when a source holds an enabled pending
cause, in PULSE while a pulse runs. -/
def attentionAsserted (s : State) : Bool :=
  match s.port.mode with
  | .levelLow | .levelHigh => candidateCount s != 0
  | .pulse => s.notices.pulseUntil.isSome

/-- The level of the attention line: high when set (R192). -/
def attentionLine (s : State) : Bool :=
  if s.resetHeld then true
  else match s.port.mode with
  | .levelLow | .pulse => !attentionAsserted s
  | .levelHigh => attentionAsserted s

/-- The sets, condition records and timers at a warm reset (R194). -/
def emptyNotices (s : State) : State :=
  s.updNotices fun x => { x with sources := Vector.replicate 58 {} }

end Sys2Proof.Machine
end

