-- ==== Sys2Proof/Machine/Schedule.lean ====
section
/-! DEFINITION. The Switching Schedule: entries, dispatch passes, spacing, admission, wait reasons and
admission deadlines (04_the_switching_schedule.md), with the aiming that a grant starts (03, R50 to R55). -/

namespace Sys2Proof.Machine

/-! ### Coil reservations -/

/-- An operation holds its reservation in AIMING and PULSING (R52). -/
def holdsReservation (op : Option Op) : Bool :=
  match op with
  | some p => p.stage == .aiming || p.stage == .pulsing
  | none => false

/-- The outlets whose operations hold a reservation. -/
def reservationHolders (s : State) : List OutletIx := allOutlets.filter fun o => holdsReservation (s.op o)

/-- The reservations held (R52, R93). -/
def reservationsHeld (s : State) : Nat := (reservationHolders s).length

/-- The free reservations. -/
def freeReservations (s : State) : Nat := Config.reservations - reservationsHeld s

/-! ### Aiming (R53 to R55) -/

/-- A crossing record is current when its cycle is the one now running or the one before it (R14). -/
def isCurrent (l : Line) (c : Crossing) : Bool := c.cycle == l.cycleNo || c.cycle == l.cycleNo - 1

/-- The record when it is current. -/
def currentRecord (l : Line) (r : Option Crossing) : Option Crossing := r.filter (isCurrent l)

/-- Of two current crossings, `a` is later than `b` (R53). -/
def laterCrossing (l : Line) (a b : Crossing) : Bool :=
  if a.cycle = b.cycle then b.slot < a.slot else a.cycle == l.cycleNo

/-- The last voltage crossing of a phase: the later of its current records (R53). -/
def lastVoltageCrossing (l : Line) (p : PhaseIx) : Option Crossing :=
  bestBy (laterCrossing l)
    ((currentRecord l l.voltage[p].rising).toList ++ (currentRecord l l.voltage[p].falling).toList)

/-- The dispatched opening of a POLICY OFF plan, which R145 has pulsed at once on a branch in RETURNING too
(first attempt alone: DEDUCED, log 22). -/
def isPolicyOpening (p : Op) : Bool := p.origin == .policy && p.direction == .open && p.attempt == .first

/-- An operation is pulsed at once: the tracker is in SEARCHING, the outlet's branch is DEAD (R55, R118), or a
POLICY OFF opening finds it RETURNING (R145). A RELEASE opening is pulsed at once on a DEAD branch, as R55 has it; one
that is first dispatched after its branch has left DEAD aims as any other opening (R137; DESIGN CHOICE, log 24). -/
def aimsAtOnce (s : State) (o : OutletIx) (p : Op) : Bool :=
  s.line.tracker == .searching || s.branchStateOf o == .dead || (s.branchStateOf o == .returning && isPolicyOpening p)

/-- The outlet's current crossing record, when the three conditions of R54 hold. -/
def currentAim (s : State) (o : OutletIx) : Option Crossing :=
  if (s.ometer o).irms ≠ 0 ∧ (s.ometer o).creep = false then currentRecord s.line s.line.current[o] else none

/-- The aim at a voltage crossing, or IMMEDIATE without a current record (R53). -/
def voltageAim (s : State) (o : OutletIx) : Aim × Option SlotIx :=
  match lastVoltageCrossing s.line (phaseOf o) with
  | some c => (.voltage, some (c.slot + 32))
  | none => (.immediate, none)

/-- The aim and the target slot with which AIMING begins (R53 to R55, R145). -/
def aimFor (s : State) (o : OutletIx) (p : Op) : Aim × Option SlotIx :=
  if aimsAtOnce s o p then (.immediate, none)
  else match p.direction with
  | .close => voltageAim s o
  | .open =>
    match currentAim s o with
    | some c => (.current, some (c.slot + 32))
    | none => voltageAim s o

/-- The pulse slot, (target slot − captured advance) mod 64 (R55). -/
def pulseSlot (p : Op) : Option SlotIx := p.target.map fun t => t - BitVec.toFin (BitVec.ofNat 6 p.advance)

/-- AIMING begins: the target is set, and an IMMEDIATE aim makes the pulse due at once. -/
def aimOp (s : State) (o : OutletIx) (p : Op) : Op :=
  let a := aimFor s o p
  { p with
    stage := .aiming
    aim := a.1
    target := a.2
    cyclesSeen := 0
    pulseDue := a.1 == .immediate
    deferred := false }

/-- The relay status fields that an operation publishes (R47). -/
def statusOf (p : Op) : RelayStatus :=
  { direction := some p.direction
    origin := some p.origin
    attempt := some p.attempt
    aim := some p.aim
    startSec := p.startSec }

/-- Put an operation context in place and publish its status. -/
def installOp (o : OutletIx) (p : Op) (s : State) : State :=
  s.updRelay o fun r => { r with op := some p, status := statusOf p }

/-! ### Learned load (R38) -/

/-- Write the engine's learned load of an outlet into its record, under a bracket of its own (R40). -/
def writeLearned (o : OutletIx) (s : State) : State :=
  s.updOutletRecord o fun r =>
    { r with learned := (s.ometer o).learned, header := { r.header with seq := r.header.seq + 2 } }

/-- The outlet's record is being published: its bracket is open (R40). -/
def isBeingPublished (s : State) (o : OutletIx) : Bool :=
  s.records.finishBy.isSome && s.records.turn == 2 * (outletSource o).val + 1

/-- Write at once, or after the publication that is writing this record (R38, R40). -/
def publishLearned (o : OutletIx) (s : State) : State :=
  if isBeingPublished s o then
    s.updRecords fun r => { r with deferred := r.deferred ++ [.learnedLoad o] }
  else writeLearned o s

/-- An opening's dispatch sets the outlet's learned load to its last window Irms (R38). -/
def setLearned (o : OutletIx) (s : State) : State :=
  publishLearned o (s.updOutletMeter o fun m => { m with learned := m.irms })

/-! ### Dispatch (R50, R72) -/

/-- The context that a dispatch creates from an entry (R50). -/
def newOp (s : State) (o : OutletIx) (e : Entry) : Op :=
  { direction := e.direction
    origin := e.origin
    attempt := .first
    stage := .aiming
    target := none
    aim := .immediate
    pulseMs := (s.ocfg o).coilPulse
    settleMs := (s.ocfg o).settle
    advance := (s.ocfg o).advance
    startSec := s.line.seconds
    dispatchPosition := s.position o
    enteredAt := e.enteredAt
    cyclesSeen := 0
    pulseDue := false
    deferred := false
    endsAt := 0
    slotStarts := 0
    samples := 0
    asserted := 0
    quietRun := 0
    abandoned := false }

/-- The plan step of an operation in flight. -/
def operationStep : Direction → PlanStep
  | .open => .opening
  | .close => .closing

/-- The plan of an outlet takes a step. -/
def setStep (o : OutletIx) (st : PlanStep) (s : State) : State :=
  match s.plan o with
  | some p => s.setPlan o (some { p with step := st })
  | none => s

/-- The entry leaves, the context is created in AIMING, and the plan advances (R50, R72). -/
def dispatchEntry (o : OutletIx) (e : Entry) (s : State) : State :=
  setStep o (operationStep e.direction) (installOp o (aimOp s o (newOp s o e)) (s.setEntry o none))

/-- The first tier: the operation at the head of the retry queue aims again as attempt 2 (R62, R76). -/
def grantRetry (o : OutletIx) (s : State) : State :=
  let t := s.updSched fun x => { x with retry := x.retry.tail }
  match t.op o with
  | some p => installOp o (aimOp t o { p with attempt := .second }) t
  | none => t

/-- The second tier: dispatch an opening, which sets the learned load (R77). -/
def grantOpening (o : OutletIx) (s : State) : State :=
  match s.entry o with
  | some e => setLearned o (dispatchEntry o e s)
  | none => s

/-- The ranks after a win of branch `w` (R84). -/
def ranksAfterWin (w : BranchIx) (x : Sched) : Vector SchedBranch 6 :=
  Vector.ofFn fun b : Fin 6 =>
    if b = w then { x.branches[b] with rank := 0 }
    else if x.branches[b].rank < x.branches[w].rank then
      { x.branches[b] with rank := x.branches[b].rank + 1 }
    else x.branches[b]

/-- The arbitration state at a win (R84). -/
def recordWin (o : OutletIx) (s : State) : State :=
  (s.updSched fun x => { x with branches := ranksAfterWin (branchOf o) x, inAim := some o }).updSchedBranch
    (branchOf o) fun b => { b with pointer := o }

/-- The third tier: dispatch the closing that the strip arbiter chose (R75, R84). -/
def grantClosing (o : OutletIx) (s : State) : State :=
  match s.entry o with
  | some e => dispatchEntry o e (recordWin o s)
  | none => s

/-! ### The choices of a pass (R77 to R83) -/

/-- The opening entries with their entered-at times, in outlet order. -/
def openingEntries (s : State) : List (OutletIx × BitVec 32) :=
  allOutlets.filterMap fun o =>
    match s.entry o with
    | some e => if e.direction = .open then some (o, e.enteredAt) else none
    | none => none

/-- The opening with the earliest entered-at, which has waited longest, the lower outlet number first (R77). -/
def oldestOpening (s : State) : Option OutletIx :=
  (bestBy (fun a b => s.msSince b.2 < s.msSince a.2) (openingEntries s)).map Prod.fst

/-- A closing spacing has passed (R86). -/
def spacingPassed (now : Nat) (last : Option Nat) (spacingMs : Nat) : Bool :=
  match last with
  | none => true
  | some t => decide (spacingMs * Config.countsPerMs ≤ now - t)

/-- The strip closing spacing has passed. -/
def stripSpacingPassed (s : State) : Bool := spacingPassed s.now s.sched.lastStart s.settings.strip.spacing

/-- The branch closing spacing has passed. -/
def branchSpacingPassed (s : State) (b : BranchIx) : Bool :=
  spacingPassed s.now (s.sbranch b).lastStart (s.bcfg b).spacing

/-- The expected load of an outlet (R82). -/
def expectedLoad (s : State) (o : OutletIx) : Nat :=
  if (s.ocfg o).expectedLoad ≠ 0 then (s.ocfg o).expectedLoad
  else if (s.ometer o).learned ≠ 0 then (s.ometer o).learned
  else s.settings.strip.defaultLoad

/-- The admission limit of a branch (R81). -/
def admissionLimit (s : State) (b : BranchIx) : Nat := (s.bcfg b).rated * (s.bcfg b).admission / 100

/-- The expected loads held in a branch's recent-closings list. -/
def recentLoad (s : State) (b : BranchIx) : Nat := ((s.sbranch b).recent.map RecentClosing.load).sum

/-- A closing of an outlet passes admission (R81). -/
def admissionPasses (s : State) (o : OutletIx) : Bool :=
  decide ((s.bmeter (branchOf o)).irms + recentLoad s (branchOf o) + expectedLoad s o
    ≤ admissionLimit s (branchOf o))

/-- The outlet has an eligible closing entry: its class, when it has one (R79). -/
def eligibleClass (s : State) (o : OutletIx) : Option Nat :=
  match s.entry o with
  | some e => if e.direction = .close ∧ admissionPasses s o then some e.klass else none
  | none => none

/-- The outlets of a branch in rotation order, from the one after the pointer (R80). -/
def rotationOrder (s : State) (b : BranchIx) : List OutletIx :=
  (List.finRange 8).map fun i => outletAt b (Fin.ofNat 8 ((s.sbranch b).pointer.val + 1 + i.val))

/-- The eligible closings of a branch with their classes, in rotation order. -/
def eligibleClosings (s : State) (b : BranchIx) : List (OutletIx × Nat) :=
  (rotationOrder s b).filterMap fun o => (eligibleClass s o).map fun k => (o, k)

/-- A branch's candidate (R79, R80). -/
def branchCandidate (s : State) (b : BranchIx) : Option (OutletIx × Nat) :=
  if s.isLive b ∧ branchSpacingPassed s b then bestBy (fun x y => x.2 < y.2) (eligibleClosings s b) else none

/-- Candidate `x` beats candidate `y` at the strip: higher class, then higher strip rank (R83). -/
def beatsAtStrip (s : State) (x y : OutletIx × Nat) : Bool :=
  x.2 < y.2 || (x.2 == y.2 && (s.sbranch (branchOf y.1)).rank < (s.sbranch (branchOf x.1)).rank)

/-- The closing that the strip arbiter chooses (R83). -/
def arbiterChoice (s : State) : Option OutletIx :=
  if s.sched.inAim.isNone ∧ stripSpacingPassed s then
    (bestBy (beatsAtStrip s) (allBranches.filterMap (branchCandidate s))).map Prod.fst
  else none

/-! ### The pass (R73, R75) -/

/-- Grant free reservations tier by tier, in at most `k` grants. The flag says whether the third tier was
reached with a reservation free. -/
def grants : Nat → State → State × Bool
  | 0, s => (s, false)
  | k + 1, s =>
    if freeReservations s = 0 then (s, false)
    else match s.sched.retry with
    | o :: _ => grants k (grantRetry o s)
    | [] =>
      if s.port.running = false then (s, true)
      else match oldestOpening s with
      | some o => grants k (grantOpening o s)
      | none =>
        match arbiterChoice s with
        | some o => ((grants k (grantClosing o s)).1, true)
        | none => (s, true)

/-! ### Wait reasons (R88) -/

/-- The first reason of R88's table that holds for a closing. `third`: the third tier was reached with a
reservation free. -/
def closingWait (s : State) (third : Bool) (o : OutletIx) : WaitReason :=
  if s.port.running = false then .stopped
  else if s.branchStateOf o = .dead then .branchDead
  else if s.branchStateOf o ≠ .live then .load
  else if third = false then .coil
  else if s.sched.inAim.isSome ∨ stripSpacingPassed s = false
      ∨ branchSpacingPassed s (branchOf o) = false then .spacing
  else if admissionPasses s o = false then .load
  else .spacing

/-- An opening waits as STOPPED or COIL (R77). -/
def openingWait (s : State) : WaitReason := if s.port.running then .coil else .stopped

/-- The wait reason of an entry at the end of a pass. -/
def waitOf (s : State) (third : Bool) (o : OutletIx) (e : Entry) : WaitReason :=
  match e.direction with
  | .open => openingWait s
  | .close => closingWait s third o

/-- Every entry left waiting takes its wait reason. -/
def refreshWaits (third : Bool) (s : State) : State :=
  s.updSched fun x =>
    { x with entries := Vector.ofFn fun o : Fin 48 => x.entries[o].map fun e => { e with wait := waitOf s third o e } }

/-- The entries waiting (R93). -/
def entriesWaiting (s : State) : Nat := (allOutlets.filter fun o => (s.entry o).isSome).length

/-- No pass makes more grants: each takes one item from the retry queue or one entry. -/
def grantBound (s : State) : Nat := s.sched.retry.length + entriesWaiting s

/-- A dispatch pass: grants until no reservation is free or nothing can take one (R73). -/
def dispatchPass (s : State) : State :=
  let r := grants (grantBound s) s
  refreshWaits r.2 r.1

/-! ### Joining and leaving (R71, R72) -/

/-- A deadline is paused while the run state is STOPPED or the outlet's branch is DEAD (R89). -/
def isPaused (s : State) (o : OutletIx) : Bool := !s.port.running || s.branchStateOf o == .dead

/-- The admission deadline of a closing that joins, the later of the two values of R89. -/
def joinDeadline (s : State) (enteredAt : BitVec 32) : BitVec 32 :=
  if s.msSince enteredAt + 1000 ≤ s.settings.strip.admissionTimeout * 1000 then
    enteredAt + BitVec.ofNat 32 (s.settings.strip.admissionTimeout * 1000)
  else s.ms + 1000

/-- The entry that joins (R71). -/
def newEntry (s : State) (o : OutletIx) (d : Direction) (origin : Origin) (enteredAt : BitVec 32) : Entry :=
  { direction := d
    origin := origin
    klass := (s.ocfg o).priority
    enteredAt := enteredAt
    deadline := joinDeadline s enteredAt
    pausedSince := if isPaused s o then some s.ms else none
    wait := .none }

/-- An entry joins, and the schedule makes a dispatch pass (R71). -/
def joinEntry (o : OutletIx) (d : Direction) (origin : Origin) (enteredAt : BitVec 32) (s : State) : State :=
  dispatchPass (s.setEntry o (some (newEntry s o d origin enteredAt)))

/-- The Plan Unit removes an entry; no pass is made (R72). -/
def removeEntry (o : OutletIx) (s : State) : State := s.setEntry o none

/-- Pause or resume one entry's deadline (R89). -/
def repauseEntry (s : State) (o : OutletIx) (e : Entry) : Entry :=
  match e.pausedSince, isPaused s o with
  | none, true => { e with pausedSince := some s.ms }
  | some t, false => { e with pausedSince := none, deadline := e.deadline + (s.ms - t) }
  | some _, true => e
  | none, false => e

/-- Pause and resume every deadline as the run state and the branch states now stand (R89 to R91). -/
def repause (s : State) : State :=
  s.updSched fun x =>
    { x with entries := Vector.ofFn fun o : Fin 48 => x.entries[o].map (repauseEntry s o) }

/-- The wait reasons of every entry become STOPPED at the change of the run state (R90). -/
def stopWaits (s : State) : State :=
  s.updSched fun x => { x with entries := mapAll (Option.map fun e => { e with wait := .stopped }) x.entries }

/-- The wait reason of a closing at a branch change other than an entry into LIVE (R88, R91). -/
def offLiveWait (s : State) (o : OutletIx) (e : Entry) : WaitReason :=
  match e.direction with
  | .open => e.wait
  | .close =>
    if s.port.running = false then .stopped else if s.branchStateOf o = .dead then .branchDead else .load

/-- The wait reasons of a branch's closings at such a change (R91). -/
def branchWaits (b : BranchIx) (s : State) : State :=
  s.updSched fun x =>
    { x with entries := Vector.ofFn fun o : Fin 48 => x.entries[o].map fun e =>
        if branchOf o = b then { e with wait := offLiveWait s o e } else e }

/-! ### Spacing records (R85, R86) and retirement (R87) -/

/-- The item that a closing adds to its branch's list. -/
def recentItem (s : State) (o : OutletIx) : RecentClosing :=
  { outlet := o, window := s.line.windowIndex, load := expectedLoad s o }

/-- An item joins a recent-closings list and replaces the outlet's earlier item (R85). -/
def withRecent (r : RecentClosing) (xs : List RecentClosing) : List RecentClosing :=
  xs.filter (fun x => x.outlet != r.outlet) ++ [r]

/-- A first closing pulse starts (R85): the last-closing-start times, the hold-off expiries, the
recent-closings list and the closing in aim. -/
def recordClosingStart (o : OutletIx) (s : State) : State :=
  let b := branchOf o
  (s.updSched fun x =>
    { x with
      lastStart := some s.now
      holdOff := some (s.now + s.settings.strip.spacing * Config.countsPerMs)
      inAim := none }).updSchedBranch b fun y =>
    { y with
      lastStart := some s.now
      holdOff := some (s.now + (s.bcfg b).spacing * Config.countsPerMs)
      recent := withRecent (recentItem s o) y.recent }

/-- The items recorded in windows before the closing one retire (R87). Window indexes are compared as the 32-bit
numbers they are: across the wrap of the index an item does not retire at the close of window 0 (DESIGN CHOICE,
log 10). -/
def retireBranch (closing : BitVec 32) (b : SchedBranch) : SchedBranch :=
  { b with recent := b.recent.filter fun r => !(r.window.ult closing) }

/-- Retirement in every branch's list at a window close (R87). -/
def retireClosings (closing : BitVec 32) (s : State) : State :=
  s.updSched fun x => { x with branches := mapAll (retireBranch closing) x.branches }

/-- The hold-off expiry after an APPLY of a new spacing: pending only when it lies ahead (R86). -/
def movedHoldOff (now : Nat) (last : Option Nat) (spacingMs : Nat) : Option Nat :=
  match last with
  | none => none
  | some t => if t + spacingMs * Config.countsPerMs ≤ now then none else some (t + spacingMs * Config.countsPerMs)

end Sys2Proof.Machine
end

