-- ==== Sys2Proof/Machine/MeterOps.lean ====
section
/-! DEFINITION. The Metering Engine: accumulation, the stages of a window close, energy, the limit
conditions, and the publication of the reading records (02_metering_arithmetic.md, R19 to R46). -/

namespace Sys2Proof.Machine

/-! ### Accumulation (R19, R20) -/

/-- A square added to an unsigned accumulator. -/
def addSquare (acc : BitVec 64) (x : Int) : BitVec 64 := acc + BitVec.ofInt 64 (x * x)

/-- One outlet's accumulators with one slot more. -/
def accumulateOutlet (v : SampleSet) (o : OutletIx) (m : OutletMeter) : OutletMeter :=
  { m with
    sII := addSquare m.sII (currentSample v o)
    sVI := m.sVI + BitVec.ofInt 64 (voltageSample v (phaseOf o) * currentSample v o) }

/-- One branch's accumulator with one slot more. -/
def accumulateBranch (v : SampleSet) (b : BranchIx) (m : BranchMeter) : BranchMeter :=
  { m with sBB := addSquare m.sBB (branchSum v b) }

/-- One phase's accumulators with one slot more. -/
def accumulatePhase (v : SampleSet) (p : PhaseIx) (m : PhaseMeter) : PhaseMeter :=
  { m with sVV := addSquare m.sVV (voltageSample v p), sPP := addSquare m.sPP (phaseSum v p) }

/-- A complete slot is added to the open window (R19, R20) (widths: DESIGN CHOICE, log 19). -/
def accumulate (v : SampleSet) (m : Meter) : Meter :=
  { m with
    outlets := Vector.ofFn fun o : Fin 48 => accumulateOutlet v o m.outlets[o]
    branches := Vector.ofFn fun b : Fin 6 => accumulateBranch v b m.branches[b]
    phases := Vector.ofFn fun p : Fin 3 => accumulatePhase v p m.phases[p]
    sNN := addSquare m.sNN (neutralSum v)
    n := m.n + 1 }

/-- All accumulators and N start again from 0 (R21). -/
def clearAccumulators (m : Meter) : Meter :=
  { m with
    outlets := mapAll (fun x => { x with sII := 0, sVI := 0 }) m.outlets
    branches := mapAll (fun x => { x with sBB := 0 }) m.branches
    phases := mapAll (fun x => { x with sVV := 0, sPP := 0 }) m.phases
    sNN := 0
    n := 0 }

/-! ### The stages of a close (R23 to R31) -/

/-- Stages 3 and 4 for a voltage: min(65535, round(isqrt(4 × MSV) × GV / 32768)) (R24). -/
def vrmsOf (n : Nat) (m : PhaseMeter) (gain : Nat) : Nat :=
  min 65535 (roundDiv (isqrt (4 * (m.sVV.toNat / n)) * gain) 32768)

/-- Stages 2 to 4 for a current: round(isqrt(MSI) × GI / 32768) (R23, R24). -/
def irmsOf (n : Nat) (m : OutletMeter) (gain : Nat) : Nat := roundDiv (isqrt (m.sII.toNat / n) * gain) 32768

/-- Stages 2 and 5: PMg (R23, R25). -/
def pmgOf (n : Nat) (m : OutletMeter) (gi gv : Nat) : Int :=
  roundDivInt (truncDiv m.sVI.toInt n * gi * gv) (2 ^ 30)

/-- Stage 7: real power (R27). -/
def powerOf (pmg : Int) : Nat := if pmg < 0 then 0 else min 65535 (roundDiv pmg.toNat 5000)

/-- Stage 8: apparent power (R28). -/
def apparentOf (vrms irms : Nat) : Nat := min 65535 (roundDiv (vrms * irms) 10000)

/-- Stage 9: power factor (R29). -/
def factorOf (pmg : Int) (vrms irms : Nat) : Nat :=
  if vrms * irms = 0 then 0 else min 1000 (roundDiv (2000 * pmg.toNat) (vrms * irms))

/-- Stage 10: energy (R30, R31). -/
def addEnergy (power duration : Nat) (m : OutletMeter) : OutletMeter :=
  if m.wh = Config.whMax then m
  else
    let r := m.residue + power * duration
    { m with wh := min Config.whMax (m.wh + r / Config.wattHour), residue := r % Config.wattHour }

/-- Stage 6 for an outlet in creep (R26). -/
def inCreep (m : OutletMeter) : OutletMeter :=
  { m with irms := 0, power := 0, apparent := 0, factor := 0, creep := true, reverse := false }

/-- Stages 7 to 10 for an outlet not in creep. -/
def measured (irms vrms : Nat) (pmg : Int) (duration : Nat) (m : OutletMeter) : OutletMeter :=
  addEnergy (powerOf pmg) duration
    { m with
      irms := irms
      power := powerOf pmg
      apparent := apparentOf vrms irms
      factor := factorOf pmg vrms irms
      creep := false
      reverse := decide (pmg < 0) }

/-- Stages 2 to 10 of one outlet at a close with N > 0 (R23 to R31, R37). -/
def outletReading (n duration creep gi gv vrms : Nat) (m : OutletMeter) : OutletMeter :=
  let irms := irmsOf n m gi
  let old := { m with prevPower := m.power }
  if irms < creep ∨ irms = 0 then inCreep old else measured irms vrms (pmgOf n m gi gv) duration old

/-- The sum of the reported P of a branch's outlets (R33). -/
def branchPower (outs : Vector OutletMeter 48) (b : BranchIx) : Nat :=
  ((outletsOf b).map fun o => outs[o].power).sum

/-- A branch's readings (R33). -/
def branchReading (n gain power : Nat) (m : BranchMeter) : BranchMeter :=
  { m with irms := roundDiv (isqrt (m.sBB.toNat / n) * gain) 32768, power := power }

/-- A phase's readings (R34). -/
def phaseReading (n gain power : Nat) (m : PhaseMeter) : PhaseMeter :=
  { m with vrms := vrmsOf n m gain, irms := isqrt (m.sPP.toNat / n), power := power }

/-- The readings of a close with N > 0. -/
def readings (c : Settings) (duration : Nat) (m : Meter) : Meter :=
  let outs := Vector.ofFn fun o : Fin 48 =>
    outletReading m.n duration c.strip.creep c.outlets[o].currentGain c.phases[phaseOf o].voltageGain
      (vrmsOf m.n m.phases[phaseOf o] c.phases[phaseOf o].voltageGain) m.outlets[o]
  let brs := Vector.ofFn fun b : Fin 6 =>
    branchReading m.n c.branches[b].currentGain (branchPower outs b) m.branches[b]
  let phs := Vector.ofFn fun p : Fin 3 =>
    phaseReading m.n c.phases[p].voltageGain
      (branchPower outs ⟨2 * p.val, by omega⟩ + branchPower outs ⟨2 * p.val + 1, by omega⟩) m.phases[p]
  { m with
    outlets := outs
    branches := brs
    phases := phs
    neutral := isqrt (m.sNN.toNat / m.n)
    totalPower := (allPhases.map fun p => phs[p].power).sum }

/-- The line frequency, round(8,192,000,000 / P) mHz (R17). -/
def lineFrequency (period : Nat) : Nat := roundDiv 8192000000 period

/-- What a close gives the record headers and the strip record (R17, R39). -/
def closeHeader (l : Line) (n duration : Nat) : CloseHeader :=
  { window := l.windowIndex
    n := n
    stale := n == 0
    duration := duration
    seconds := l.seconds
    tracker := l.tracker
    period := l.period
    frequency := lineFrequency l.period
    rejectRun := l.rejectRun }

/-- ENERGY_SATURATED of an outlet whose Wh reached its limit at this close (R31). -/
def raiseSaturated (old : Vector OutletMeter 48) (o : OutletIx) (s : State) : State :=
  if old[o].wh ≠ Config.whMax ∧ (s.ometer o).wh = Config.whMax then
    raiseEdge (outletSource o) causeEnergySaturated s
  else s

/-- The engine takes the closing window (R21 to R31): the readings when N > 0, or the held ones. -/
def takeWindow (s : State) : State :=
  let n := s.meter.n
  let d := s.now - s.line.windowOpened
  let m := if n = 0 then s.meter else readings s.settings d s.meter
  let t := { s with meter := { clearAccumulators m with lastClose := closeHeader s.line n d } }
  forAll allOutlets (raiseSaturated s.meter.outlets) t

/-! ### Limit conditions (R32, R35, R36) -/

/-- OVERCURRENT of an outlet (R32). -/
def handOvercurrent (o : OutletIx) (s : State) : State :=
  setCondition (outletSource o) causeOvercurrent (decide ((s.ocfg o).currentLimit < (s.ometer o).irms)) s

/-- UNDERVOLT and OVERVOLT of a phase (R36). -/
def handVoltage (p : PhaseIx) (s : State) : State :=
  setCondition (phaseSource p) causeOvervolt (decide ((s.pcfg p).overvoltage < (s.pmeter p).vrms))
    (setCondition (phaseSource p) causeUndervolt (decide ((s.pmeter p).vrms < (s.pcfg p).undervoltage)) s)

/-- NEUTRAL_HIGH (R35). -/
def handNeutral (s : State) : State :=
  setCondition stripSource causeNeutralHigh (decide (s.settings.strip.neutralLimit < s.meter.neutral)) s

/-- The limit conditions at a close. -/
def handLimits (s : State) : State :=
  handNeutral (forAll allPhases handVoltage (forAll allOutlets handOvercurrent s))

/-! ### Publication (R39, R40) -/

/-- The half-brackets from `a` up to `b` of a publication that fall on the record of a rank. -/
def halvesMade (a b rank : Nat) : Nat := min b (2 * rank + 2) - max a (2 * rank)

/-- The half-brackets from `a` up to `b` close the record of a rank, with its fields written. -/
def closesRecord (a b rank : Nat) : Bool := decide (a ≤ 2 * rank + 1) && decide (2 * rank + 1 < b)

/-- Each half-bracket increases the sequence word by 1 (R40). -/
def advanceSeq (a b rank : Nat) (h : RecordHeader) : RecordHeader :=
  { h with seq := h.seq + BitVec.ofNat 16 (halvesMade a b rank) }

/-- The header fields that a publication writes (R39). -/
def writeHeader (c : CloseHeader) (h : RecordHeader) : RecordHeader :=
  { h with window := c.window, n := c.n, stale := c.stale }

/-- The publication writes an outlet's record. -/
def writeOutlet (c : CloseHeader) (m : OutletMeter) (r : OutletRecord) : OutletRecord :=
  { header := writeHeader c r.header
    irms := m.irms
    power := m.power
    apparent := m.apparent
    factor := m.factor
    creep := m.creep
    reverse := m.reverse
    wh := m.wh
    learned := m.learned }

/-- The publication writes a branch's record. -/
def writeBranch (c : CloseHeader) (m : BranchMeter) (r : BranchRecord) : BranchRecord :=
  { header := writeHeader c r.header, irms := m.irms, power := m.power }

/-- The publication writes a phase's record. -/
def writePhase (c : CloseHeader) (m : PhaseMeter) (present : Bool) (r : PhaseRecord) : PhaseRecord :=
  { header := writeHeader c r.header, vrms := m.vrms, irms := m.irms, power := m.power, present := present }

/-- The publication writes the strip record. -/
def writeStrip (m : Meter) (r : StripRecord) : StripRecord :=
  let c := m.lastClose
  { header := writeHeader c r.header
    neutral := m.neutral
    totalPower := m.totalPower
    duration := c.duration
    seconds := c.seconds
    tracker := c.tracker
    period := c.period
    frequency := c.frequency
    rejectRun := c.rejectRun }

/-- Half-brackets `a` up to `b` on an outlet's record. -/
def publishOutlet (a b : Nat) (m : Meter) (o : OutletIx) (r : OutletRecord) : OutletRecord :=
  let rank := (outletSource o).val
  let q := if closesRecord a b rank then writeOutlet m.lastClose m.outlets[o] r else r
  { q with header := advanceSeq a b rank q.header }

/-- Half-brackets `a` up to `b` on a branch's record. -/
def publishBranch (a b : Nat) (m : Meter) (i : BranchIx) (r : BranchRecord) : BranchRecord :=
  let rank := (branchSource i).val
  let q := if closesRecord a b rank then writeBranch m.lastClose m.branches[i] r else r
  { q with header := advanceSeq a b rank q.header }

/-- Half-brackets `a` up to `b` on a phase's record. -/
def publishPhase (a b : Nat) (m : Meter) (present : Bool) (p : PhaseIx) (r : PhaseRecord) : PhaseRecord :=
  let rank := (phaseSource p).val
  let q := if closesRecord a b rank then writePhase m.lastClose m.phases[p] present r else r
  { q with header := advanceSeq a b rank q.header }

/-- Half-brackets `a` up to `b` on the strip's record. -/
def publishStrip (a b : Nat) (m : Meter) (r : StripRecord) : StripRecord :=
  let q := if closesRecord a b 0 then writeStrip m r else r
  { q with header := advanceSeq a b 0 q.header }

/-- Half-brackets `a` up to `b` of a publication, in source order: the strip, the phases, the branches, the
outlets (R40) (DESIGN CHOICE, log 5). -/
def publishHalves (a b : Nat) (m : Meter) (present : Vector Bool 3) (r : Records) : Records :=
  { r with
    strip := publishStrip a b m r.strip
    phases := Vector.ofFn fun p : Fin 3 => publishPhase a b m present[p] p r.phases[p]
    branches := Vector.ofFn fun i : Fin 6 => publishBranch a b m i r.branches[i]
    outlets := Vector.ofFn fun o : Fin 48 => publishOutlet a b m o r.outlets[o]
    turn := b }

/-- The publication in progress makes its next half-bracket, when one is left (R40). -/
def publishNext (s : State) : State :=
  if s.records.finishBy.isSome ∧ s.records.turn < Config.publicationHalves then
    s.updRecords fun r => publishHalves r.turn (r.turn + 1) s.meter s.line.present r
  else s

/-- An energy clear's write to the record, under a bracket of its own (R41). -/
def writeWh (o : OutletIx) (s : State) : State :=
  s.updOutletRecord o fun r =>
    { r with wh := (s.ometer o).wh, header := { r.header with seq := r.header.seq + 2 } }

/-- A deferred write is made from the engine's state at that moment (R40). -/
def runDeferred : DeferredWrite → State → State
  | .learnedLoad o, s => writeLearned o s
  | .energyClear o, s => writeWh o s

/-- The publication in progress makes what is left of its half-brackets, and then the deferred writes are made in
order (R40). -/
def finishPublication (s : State) : State :=
  if s.records.finishBy.isSome then
    forAll s.records.deferred runDeferred
      (s.updRecords fun r =>
        { publishHalves r.turn Config.publicationHalves s.meter s.line.present r with
          finishBy := none, turn := 0, deferred := [] })
  else s

/-- A close starts the publication of its records (R40). -/
def startPublication (s : State) : State :=
  s.updRecords fun r => { r with finishBy := some (s.now + Config.publicationCounts), turn := 0 }

/-! ### Clearing energy (R41, R42) -/

/-- Publish an energy clear at once, or after the publication that is writing this record (R40). -/
def publishClear (o : OutletIx) (s : State) : State :=
  if isBeingPublished s o then
    s.updRecords fun r => { r with deferred := r.deferred ++ [.energyClear o] }
  else writeWh o s

/-- Clear an outlet's energy (R41). -/
def clearOutletEnergy (o : OutletIx) (s : State) : State :=
  publishClear o (s.updOutletMeter o fun m => { m with wh := 0, residue := 0 })

end Sys2Proof.Machine
end

