-- ==== Sys2Proof/Machine/CaptureOps.lean ====
section
/-! DEFINITION. The Capture Channel's operations: the request, arming, triggers, taking and settling slots,
and ends (08_waveform_capture.md, R166 to R174). -/

namespace Sys2Proof.Machine

/-! ### The request (R166) -/

/-- A source code outside the three is taken as the nearer end of the range. -/
def captureSourceOf (v : Word) : CaptureSource :=
  if v = 0 then .outlet else if v = 1 then .branch else .phase

/-- The last index of a source. -/
def lastIndex : CaptureSource → Nat
  | .outlet => 48 | .branch => 6 | .phase => 3

/-- The largest number of cycles of a source. -/
def maxCycles : CaptureSource → Nat
  | .outlet => 32 | .branch => 64 | .phase => 64

/-- The trigger taken: ON_OPERATION only for an OUTLET. -/
def captureTriggerOf (v : Word) (src : CaptureSource) : CaptureTrigger :=
  if v = 0 then .nextCycle else if src = .outlet then .onOperation else .nextCycle

/-- The arm timeout taken: 0 means 60 s, and more than 600 s is taken as 600 s. -/
def armTimeoutOf (v : Word) : Nat := if v = 0 then 60 else min 600 v.toNat

/-- The checked request with its clamp flags (R166). -/
def checkRequest (source index cycles trigger timeout : Word) : CaptureRequest :=
  let src := captureSourceOf source
  let ix := clamp 1 (lastIndex src) index.toNat
  let cy := clamp 1 (maxCycles src) cycles.toNat
  let tr := captureTriggerOf trigger src
  let flags := flagWord
    [captureSourceWord src != source, ix != index.toNat, cy != cycles.toNat, captureTriggerWord tr != trigger,
      decide (600 < timeout.toNat)]
  { source := src
    index := ix
    cycles := cy
    trigger := tr
    armTimeout := armTimeoutOf timeout
    clamps := BitVec.ofNat 5 flags }

/-- The request in the capture control block's host-owned fields. -/
def requestFields (s : State) : CaptureRequest :=
  checkRequest (Memory.word s.xm 0x7C) (Memory.word s.xm 0x7E) (Memory.word s.xm 0x80) (Memory.word s.xm 0x82)
    (Memory.word s.xm 0x84)

/-! ### Ends (R173) -/

/-- A capture ends with a state and an end reason, and CAPTURE_ENDED is raised. -/
def endCapture (st : CaptureState) (r : EndReason) (s : State) : State :=
  raiseEdge stripSource causeCaptureEnded <| s.updCapture fun c =>
    { c with state := st, endReason := r, armedFrom := none, abortPending := none }

/-! ### START, ABORT and unknown commands (R167, R172) -/

/-- A refused capture command (R167). -/
def refuseCapture (code : ResultCode) (s : State) : State :=
  raiseEdge stripSource causeStripRefused (s.updCapture fun c => { c with refusal := code })

/-- A START that is taken (R167). -/
def armCapture (s : State) : State :=
  s.updCapture fun c =>
    { c with
      state := .armed
      request := requestFields s
      armedFrom := some s.now
      cyclesBegun := 0
      abortPending := none
      fill := 0
      missed := 0
      holdover := false
      endReason := .none }

/-- A START by the capture state (R167). -/
def captureStart (s : State) : State :=
  match s.capture.state with
  | .idle | .done | .aborted => armCapture s
  | .armed | .running => refuseCapture .busy s

/-- A slot that the capture takes is in flight (R172). -/
def slotTaken (s : State) : Bool :=
  match s.line.inFlight with
  | some f => f.captured
  | none => false

/-- End a running capture with a reason, at once or when its slot in flight settles (R172, R174). -/
def abortRunning (r : EndReason) (s : State) : State :=
  if s.capture.abortPending.isSome then s
  else if slotTaken s then s.updCapture fun c => { c with abortPending := some r }
  else endCapture .aborted r s

/-- An ABORT or a warm reset by the capture state (R172, R174). -/
def stopCapture (r : EndReason) (s : State) : State :=
  match s.capture.state with
  | .armed => endCapture .aborted r s
  | .running => abortRunning r s
  | .idle | .done | .aborted => s

/-- A host write to the capture command word, by the written value (R167). -/
def captureCommand (v : Word) (s : State) : State :=
  if v = 1 then captureStart s else if v = 2 then stopCapture .aborted s else refuseCapture .badKind s

/-! ### Taking slots (R168 to R171) -/

/-- The HOLDOVER flag after a cycle start of a kind that begins a captured cycle (R171). -/
def flagCycle (k : CycleKind) (c : Capture) : Capture := { c with holdover := c.holdover || k != .edge }

/-- Enter RUNNING at a trigger that falls in a cycle of a kind (R168): the arm timer stops, and that cycle's start
judges the first captured cycle, which begins at the trigger (R169, R171). -/
def runCapture (k : CycleKind) (s : State) : State :=
  s.updCapture fun c => flagCycle k { c with state := .running, armedFrom := none, firstKind := k }

/-- A cycle start reaches the capture (R168, R169), after the last slot taken has settled: it is the trigger
of NEXT_CYCLE, it ends a capture whose last requested cycle it ends, or it begins one cycle more. A cycle start
that comes after the trigger and before the first slot taken begins the cycle of that slot: it judges the flag
too, and the slot counts the cycle (DEDUCED, log 13). -/
def captureCycle (k : CycleKind) (s : State) : State :=
  match s.capture.state with
  | .armed => if s.capture.request.trigger = .nextCycle then runCapture k s else s
  | .running =>
    if s.capture.cyclesBegun = 0 then s.updCapture (flagCycle k)
    else if s.capture.request.cycles ≤ s.capture.cyclesBegun then endCapture .done .count s
    else s.updCapture fun c => flagCycle k { c with cyclesBegun := c.cyclesBegun + 1 }
  | .idle | .done | .aborted => s

/-- The capture takes a slot that starts now (R169). -/
def capturesSlot (s : State) : Bool := s.capture.state == .running && s.capture.abortPending.isNone

/-- The first slot taken begins the first captured cycle, which the start of the trigger's cycle judges (R169,
R171) (DEDUCED, log 13). -/
def beginCapturedCycle (s : State) : State :=
  if s.capture.cyclesBegun = 0 then
    s.updCapture fun c => flagCycle c.firstKind { c with cyclesBegun := 1 }
  else s

/-- The slot in flight becomes one that the capture takes. -/
def markSlotTaken (s : State) : State :=
  beginCapturedCycle (s.updLine fun l => { l with inFlight := l.inFlight.map fun f => { f with captured := true } })

/-- A pulse start of an outlet reaches the capture (R168). `atSlot`: the pulse started at a slot start. The
slot in flight that starts at that moment is the first one taken. -/
def captureTrigger (o : OutletIx) (atSlot : Bool) (s : State) : State :=
  if s.capture.state = .armed ∧ s.capture.request.trigger = .onOperation
      ∧ s.capture.request.index = outletNumber o then
    let t := runCapture s.line.cycleKind s
    match s.line.inFlight with
    | some f => if atSlot ∧ f.startAt = s.now then markSlotTaken t else t
    | none => t
  else s

/-- The words that a complete slot writes (R170). -/
def slotWords (r : CaptureRequest) (v : SampleSet) : List Word :=
  match r.source with
  | .outlet =>
    let o : OutletIx := Fin.ofNat 48 (r.index - 1)
    [BitVec.ofInt 16 (voltageSample v (phaseOf o)), BitVec.ofInt 16 (currentSample v o)]
  | .branch => [BitVec.ofInt 16 (branchSum v (Fin.ofNat 6 (r.index - 1)) / 8)]
  | .phase => [BitVec.ofInt 16 (voltageSample v (Fin.ofNat 3 (r.index - 1)))]

/-- Write words into the capture area from a word index on; the area ends at its last word (R170)
(DESIGN CHOICE, log 19). -/
def writeArea (m : Memory) (fill : Nat) : List Word → Memory
  | [] => m
  | w :: ws =>
    writeArea (if fill < Config.captureWords then Memory.setWord m (Config.captureBase + 2 * fill) w else m)
      (fill + 1) ws

/-- The slot in flight has settled: a pending abort takes effect (R172). -/
def settleAbort (s : State) : State :=
  match s.capture.abortPending with
  | some r => if s.capture.state = .running then endCapture .aborted r s else s
  | none => s

/-- A complete slot that the capture takes writes its words (R170). -/
def captureComplete (v : SampleSet) (s : State) : State :=
  if slotTaken s ∧ s.capture.state = .running then
    let ws := slotWords s.capture.request v
    settleAbort
      ({ s with
        xm := writeArea s.xm s.capture.fill ws
        capture := { s.capture with fill := s.capture.fill + ws.length } })
  else s

/-- A missed slot that the capture takes is counted (R170). -/
def captureMissed (s : State) : State :=
  if slotTaken s ∧ s.capture.state = .running then
    settleAbort (s.updCapture fun c => { c with missed := c.missed + 1 })
  else s

/-- The arm timer has reached the taken arm timeout (R168). -/
def armTimedOut (s : State) : Bool :=
  s.capture.state == .armed &&
    match s.capture.armedFrom with
    | some t => decide (t + s.capture.request.armTimeout * Config.countsPerSecond ≤ s.now)
    | none => false

end Sys2Proof.Machine
end

