-- ==== Sys2Proof/Machine/WatchOps.lean ====
section
/-! DEFINITION. The Stall Watch's operations: re-evaluation, grace, kicks, the counts of a tick, the reports
it receives, and its reset (07_stall_watch.md, R147 to R165). What declares a stall stands in
Machine/StallOps.lean, after the Plan Unit. -/

namespace Sys2Proof.Machine

/-- The plan of an outlet is one the watch made (R147, R148). -/
def watchPlanActive (s : State) (o : OutletIx) : Bool :=
  match s.plan o with
  | some p => p.origin == .watch
  | none => false

/-- The outlet has no plan, or a plan of origin WATCH (R147). -/
def noForeignPlan (s : State) (o : OutletIx) : Bool := (s.plan o).isNone || watchPlanActive s o

/-- An outlet is powered, for the watch (R147). -/
def powered (s : State) (o : OutletIx) : Bool :=
  isClosed (s.position o) && s.isLive (branchOf o) && noForeignPlan s o

/-- The watch state that a resume state names. -/
def resumeState : Resume → WatchState
  | .none => .idle | .grace => .grace | .watching => .watching | .stalled => .stalled

/-- The resume state that leaving a watch state for IDLE records (R148). -/
def resumeOf : WatchState → Resume → Resume
  | .grace, _ => .grace
  | .watching, _ => .watching
  | .stalled, _ => .stalled
  | .disabled, r => r
  | .idle, r => r
  | .recovering, r => r
  | .givenUp, r => r

/-- An outlet is in GRACE, WATCHING or STALLED. -/
def isJudging : WatchState → Bool
  | .grace | .watching | .stalled => true
  | .disabled | .idle | .recovering | .givenUp => false

/-- Enter GRACE with the grace seconds as they stand. A boot grace of 0 is reached at the entry (R154). -/
def enterGrace (s : State) (o : OutletIx) (w : OutletWatch) : OutletWatch :=
  if (s.ocfg o).bootGrace = 0 then { w with state := .watching, quiet := 0 } else { w with state := .grace }

/-- Take the resume state of a powered outlet: the third and fourth rows of R148. -/
def takeResume (s : State) (o : OutletIx) (w : OutletWatch) : OutletWatch :=
  match w.resume with
  | .none => enterGrace s o { w with grace := 0 }
  | .grace => enterGrace s o w
  | .watching => { w with state := .watching }
  | .stalled => { w with state := .stalled }

/-- Go to IDLE, keeping what to resume (R148). -/
def goIdle (w : OutletWatch) : OutletWatch := { w with state := .idle, resume := resumeOf w.state w.resume }

/-- The rows of R148 after its first, for an outlet whose resume state has just been set: R149, R157, R158,
R160 and R165. -/
def resumeWatch (s : State) (o : OutletIx) (w : OutletWatch) : OutletWatch :=
  if watchPlanActive s o then { w with state := .recovering }
  else if powered s o then takeResume s o w
  else { w with state := .idle }

/-- The re-evaluation of R148. A powered outlet that is already in GRACE, WATCHING or STALLED stays there
(DEDUCED, log 8). -/
def reevaluated (s : State) (o : OutletIx) (w : OutletWatch) : OutletWatch :=
  match w.state with
  | .disabled => w
  | .givenUp => w
  | .idle | .grace | .watching | .stalled | .recovering =>
    if watchPlanActive s o then { w with state := .recovering }
    else if powered s o then if isJudging w.state then w else takeResume s o w
    else goIdle w

/-- The re-evaluation of an outlet (R148). -/
def reevaluate (o : OutletIx) (s : State) : State := s.updOutletWatch o (reevaluated s o)

/-- Set the resume state and take the state it gives (R149, R157, R160, R165). -/
def restartWatch (s : State) (o : OutletIx) (r : Resume) (w : OutletWatch) : OutletWatch :=
  resumeWatch s o { w with resume := r }

/-- A fresh grace (R149, R157, R158). -/
def freshGrace (s : State) (o : OutletIx) (w : OutletWatch) : OutletWatch :=
  restartWatch s o .grace { w with grace := 0, quiet := 0 }

/-- An operation of the outlet has ended: a closing that ends DONE starts a fresh grace (R149). -/
def watchOpEnd (o : OutletIx) (d : Direction) (r : OpResult) (s : State) : State :=
  if d = .close ∧ r = .done ∧ (isJudging (s.owatch o).state ∨ (s.owatch o).state = .idle) then
    s.updOutletWatch o (freshGrace s o)
  else reevaluate o s

/-- The outlet enters GIVEN_UP, and WATCH_GAVE_UP is raised (R157, R159). -/
def giveUp (o : OutletIx) (s : State) : State :=
  raiseEdge (outletSource o) causeGaveUp (s.updOutletWatch o fun w => { w with state := .givenUp })

/-- The end of a WATCH plan (R157) (DONE_NO_CHANGE: DEDUCED, log 9). -/
def watchPlanEnded (o : OutletIx) (out : PlanOutcome) (s : State) : State :=
  match out with
  | .done => s.updOutletWatch o (freshGrace s o)
  | .reset => s.updOutletWatch o fun w => restartWatch s o .watching { w with quiet := 0 }
  | .notVerified | .cancelled | .superseded | .loadTimeout | .failedToOpen | .failedToClose => giveUp o s
  | .doneNoChange => giveUp o s

/-- A plan end that moves an outlet out of GIVEN_UP (R158). -/
def endsGivenUp (s : State) (o : OutletIx) (origin : Origin) (out : PlanOutcome) : Bool :=
  (origin == .posted || origin == .group) && isClosed (s.position o) && out != .superseded && out != .reset

/-- The Plan Unit reports a plan end (R103): R157, R158 or a re-evaluation. -/
def watchPlanEnd (o : OutletIx) (origin : Origin) (out : PlanOutcome) (s : State) : State :=
  match (s.owatch o).state with
  | .disabled => s
  | .givenUp => if endsGivenUp s o origin out then s.updOutletWatch o (freshGrace s o) else s
  | .idle | .grace | .watching | .stalled | .recovering =>
    if origin = .watch then watchPlanEnded o out s else reevaluate o s

/-- Re-evaluate the outlets of a list. -/
def reevaluateAll (os : List OutletIx) (s : State) : State := forAll os reevaluate s

/-! ### The count hold and activity (R151, R152) -/

/-- The count hold that a close sets (R151). -/
def closeHold (s : State) (o : OutletIx) : CountHold :=
  if s.meter.lastClose.stale then .stale
  else if (s.ometer o).power < (s.ocfg o).standbyFloor then .standby
  else .none

/-- The outlet shows activity at a close with samples (R152). -/
def showsActivity (s : State) (o : OutletIx) : Bool :=
  !s.meter.lastClose.stale &&
    decide ((s.ocfg o).activityBand ≤
      ((s.ometer o).power - (s.ometer o).prevPower) + ((s.ometer o).prevPower - (s.ometer o).power))

/-- The activity test (R152). -/
def activityTest (s : State) (o : OutletIx) (w : OutletWatch) : OutletWatch :=
  if showsActivity s o ∧ (w.state = .watching ∨ w.state = .stalled) then
    { w with state := .watching, quiet := 0 }
  else w

/-- One outlet's watch at a window close: count hold, activity, re-evaluation. -/
def watchCloseOne (o : OutletIx) (s : State) : State :=
  reevaluate o (s.updOutletWatch o fun w => activityTest s o { w with hold := closeHold s o })

/-- Every outlet's watch at a window close. -/
def watchClose (s : State) : State := forAll allOutlets watchCloseOne s

/-! ### Kicks (R153) -/

/-- What a kick does to the outlet's watch, by its state. -/
def kicked (sec : BitVec 32) (w : OutletWatch) : OutletWatch :=
  match w.state with
  | .watching | .stalled | .grace => { w with state := .watching, quiet := 0, lastKick := sec }
  | .disabled | .idle | .recovering | .givenUp => { w with lastKick := sec }

/-- The outlet that a kick word value names (R153). -/
def kickOutlet (v : Word) : Option OutletIx :=
  if h : 1 ≤ v.toNat ∧ v.toNat ≤ 48 then some ⟨v.toNat - 1, by omega⟩ else none

/-- A host write to the kick word (R153). -/
def takeKick (v : Word) (s : State) : State :=
  match kickOutlet v with
  | none => s
  | some o => (s.updWatch fun x => { x with kickWord := v }).updOutletWatch o (kicked s.line.seconds)

/-! ### The counts of a tick (R154) -/

/-- What a tick counts for one outlet. -/
def tickCount (w : OutletWatch) : OutletWatch :=
  match w.state with
  | .grace => { w with grace := min 1800 (w.grace + 1) }
  | .watching =>
    { w with
      healthy := min 86400 (w.healthy + 1)
      quiet := if w.hold = .none then min 3600 (w.quiet + 1) else w.quiet }
  | .disabled | .idle | .stalled | .recovering | .givenUp => w

/-- What that count makes due (R154 to R156). -/
def tickEvents (s : State) (o : OutletIx) : List TickEvent :=
  let w := s.owatch o
  match w.state with
  | .grace => if (s.ocfg o).bootGrace ≤ w.grace then [.graceEnd o] else []
  | .watching =>
    (if (s.ocfg o).recoverySpan ≤ w.healthy then [TickEvent.recoverySpan o] else [])
      ++ (if w.hold = .none ∧ (s.ocfg o).quietLimit ≤ w.quiet then [TickEvent.stall o] else [])
  | .disabled | .idle | .stalled | .recovering | .givenUp => []

/-- The watch's share of a tick: the counts of every outlet, and what they make due. -/
def tickWatch (s : State) : State :=
  let t := s.updWatch fun x => { x with outlets := mapAll tickCount x.outlets }
  { t with tickDue := t.tickDue ++ allOutlets.flatMap (tickEvents t) }

/-- The grace ends (R154). -/
def endGrace (o : OutletIx) (s : State) : State :=
  s.updOutletWatch o fun w => if w.state = .grace then { w with state := .watching, quiet := 0 } else w

/-- The recovery span is reached (R156). -/
def reachSpan (o : OutletIx) (s : State) : State :=
  s.updOutletWatch o fun w => { w with attempts := 0, healthy := 0 }

/-! ### Services, APPLY and warm reset -/

/-- REARM_WATCH on an outlet's watch (R160). -/
def rearmed (s : State) (o : OutletIx) (w : OutletWatch) : OutletWatch :=
  let v := { w with attempts := 0, healthy := 0 }
  match w.state with
  | .givenUp => restartWatch s o .watching { v with quiet := 0 }
  | .disabled => v
  | .idle | .grace | .watching | .stalled | .recovering => reevaluated s o v

/-- The values that an APPLY clearing the enable sets (R150). -/
def disabledWatch (w : OutletWatch) : OutletWatch :=
  { w with state := .disabled, resume := .none, grace := 0, quiet := 0, healthy := 0, attempts := 0 }

/-- The values with which an outlet starts when its enable is set (R150). -/
def enabledWatch (w : OutletWatch) : OutletWatch := { disabledWatch w with state := .idle, hold := .none }

/-- An outlet APPLY reaches the outlet's watch, after the applied copy has changed (R150, R162). -/
def watchApply (o : OutletIx) (s : State) : State :=
  s.updOutletWatch o fun w =>
    if (s.ocfg o).watchEnable = false then disabledWatch w
    else if w.state = .disabled then reevaluated s o (enabledWatch w)
    else reevaluated s o { w with attempts := min w.attempts (s.ocfg o).attemptLimit }

/-- The resume state that a warm reset gives an outlet (R165). -/
def warmResume (w : OutletWatch) : OutletWatch :=
  match w.state with
  | .grace | .watching | .stalled | .idle => { w with resume := .watching }
  | .disabled | .recovering | .givenUp => w

/-- A warm reset of one enabled outlet's watch (R165). -/
def watchWarmOne (s : State) (o : OutletIx) (w : OutletWatch) : OutletWatch :=
  let v := warmResume { w with grace := 0, quiet := 0, healthy := 0, attempts := 0 }
  match w.state with
  | .disabled => w
  | .givenUp => v
  | .idle | .grace | .watching | .stalled => resumeWatch s o v
  | .recovering => reevaluated s o v

/-- A warm reset of one outlet's watch. -/
def watchWarmStep (o : OutletIx) (s : State) : State := s.updOutletWatch o (watchWarmOne s o)

/-- A warm reset of the watch (R165). -/
def watchWarm (s : State) : State := forAll allOutlets watchWarmStep s

end Sys2Proof.Machine
end

