-- ==== Sys2Proof/Machine/PlanOps.lean ====
section
/-! DEFINITION. The Plan Unit's operations: judging, creating, ending and superseding plans, the reports it
makes and takes, postings, group operations and internal requests (05_outlet_plans_and_action_slots.md), with
the Branch Guard's handling of plan reports (06, R131, R137, R140). -/

namespace Sys2Proof.Machine

/-! ### Marks at a plan creation (R112, R140) -/

/-- At least one outlet of a branch carries a shed mark. -/
def anyShedMark (s : State) (b : BranchIx) : Bool := (outletsOf b).any fun o => (s.marks o).shed

/-- The restore hold stops when the last shed mark of the branch has been cleared (R134). -/
def stopHoldIfUnmarked (b : BranchIx) (s : State) : State :=
  if anyShedMark s b then s else s.updBranch b fun g => { g with restoreHold := none }

/-- Clear an outlet's shed mark. -/
def clearShedMark (o : OutletIx) (s : State) : State :=
  if (s.marks o).shed then stopHoldIfUnmarked (branchOf o) (s.updMarks o fun m => { m with shed := false }) else s

/-- The Guard's handling of a plan creation: a plan of origin POSTED or GROUP clears both marks (R112). -/
def guardCreation (o : OutletIx) (origin : Origin) (s : State) : State :=
  if origin = .posted ∨ origin = .group then
    (clearShedMark o s).updMarks o fun m => { m with release := false }
  else s

/-! ### Creating a plan -/

/-- The dwell of a plan (R99): the override when it is not 0, taken as at most 600 s, or the applied
off-dwell. -/
def planDwell (s : State) (o : OutletIx) (override : Nat) : Nat :=
  if override = 0 then (s.ocfg o).offDwell else min 600 override

/-- What a creation is asked for. -/
structure PlanRequest where
  kind : PlanKind
  origin : Origin
  tag : BitVec 8
  /-- The captured dwell override, 0 for none. -/
  override : Nat
  member : Bool
deriving DecidableEq, Repr

/-- A new plan at a step. -/
def newPlan (s : State) (o : OutletIx) (r : PlanRequest) (st : PlanStep) (replaced : Option (Origin × PlanKind)) :
    Plan :=
  { kind := r.kind
    origin := r.origin
    step := st
    dwell := planDwell s o r.override
    dwellEnd := 0
    tag := r.tag
    replaced := replaced
    openingUnverified := false
    groupMember := r.member
    heldCancel := false
    waiting := false }

/-- The slot fields that a creation writes (R104). -/
def slotAtCreation (r : PlanRequest) (replaced : Option (Origin × PlanKind)) (x : ActionSlot) : ActionSlot :=
  { x with
    used := true
    origin := some r.origin
    kind := kindWord r.kind
    result := .none
    tag := r.tag
    replaced := replaced }

/-- Put a plan in place and write its slot, with no report yet. -/
def placePlan (o : OutletIx) (r : PlanRequest) (p : Plan) (s : State) : State :=
  (s.setPlan o (some p)).updSlot o (slotAtCreation r p.replaced)

/-- Report a creation to the Branch Guard and the Stall Watch (R112). -/
def reportCreation (o : OutletIx) (origin : Origin) (s : State) : State := reevaluate o (guardCreation o origin s)

/-- Create a plan at a step and report the creation. -/
def createPlan (o : OutletIx) (r : PlanRequest) (st : PlanStep) (s : State) : State :=
  reportCreation o r.origin (placePlan o r (newPlan s o r st none) s)

/-- The queued step of a direction. -/
def queuedStep : Direction → PlanStep
  | .open => .queuedOpen
  | .close => .queuedClose

/-- The plan enters a queued step, and its entry joins (R97). -/
def enterQueued (o : OutletIx) (d : Direction) (enteredAt : BitVec 32) (s : State) : State :=
  match s.plan o with
  | some p => joinEntry o d p.origin enteredAt (setStep o (queuedStep d) s)
  | none => s

/-- Create a plan in a queued step (R106). -/
def createQueued (o : OutletIx) (r : PlanRequest) (d : Direction) (s : State) : State :=
  enterQueued o d s.ms (createPlan o r (queuedStep d) s)

/-! ### Release requests (R137) -/

/-- The outlet meets the conditions of a release: closed, no plan, release flag set. -/
def releasable (s : State) (o : OutletIx) : Bool :=
  isClosed (s.position o) && (s.plan o).isNone && (s.ocfg o).releaseFlag

/-- The request of an internal plan (R111): tag 0 and the applied off-dwell. -/
def internalRequest (k : PlanKind) (origin : Origin) : PlanRequest :=
  { kind := k, origin := origin, tag := 0, override := 0, member := false }

/-- A RELEASE OFF request on an outlet that meets the conditions: it is always taken, and its mark is set
(R137). -/
def requestRelease (o : OutletIx) (s : State) : State :=
  createQueued o (internalRequest .off .release) .open (s.updMarks o fun m => { m with release := true })

/-- The outlet's branch is DEAD with loss policy RELEASE (R137). -/
def releasing (s : State) (o : OutletIx) : Bool :=
  s.branchStateOf o == .dead && (s.bcfg (branchOf o)).releasePolicy

/-- A plan end on a DEAD branch with loss policy RELEASE (R137). -/
def releaseAtEnd (o : OutletIx) (s : State) : State :=
  if releasing s o ∧ releasable s o then requestRelease o s else s

/-- The end of the SHED plan of the shed outlet moves the phase to STEPPING (R131). -/
def shedPlanEnd (o : OutletIx) (origin : Origin) (s : State) : State :=
  let g := s.gbranch (branchOf o)
  if g.shedPhase = .planRunning ∧ g.shedOutlet = some o ∧ origin = .shed then
    s.updBranch (branchOf o) fun x => { x with shedPhase := .stepping, stepCount := 0 }
  else s

/-! ### The group record (R115, R116) -/

/-- Count a member plan's end (R115). -/
def countMember (out : PlanOutcome) (g : Group) : Group :=
  match out with
  | .done | .doneNoChange | .notVerified => { g with done := g.done + 1 }
  | .cancelled | .superseded => { g with cancelled := g.cancelled + 1 }
  | .loadTimeout | .failedToClose | .failedToOpen | .reset => { g with failed := g.failed + 1 }

/-- A plan's end reaches the group record when group member is set (R103). -/
def groupEnd (member : Bool) (out : PlanOutcome) (s : State) : State :=
  if member = true ∧ s.plans.group.status = .active then s.updGroup (countMember out) else s

/-- End the strip slot with a result and raise GROUP_DONE (R116, R121). Its end strip-second is written at a warm reset
too, where R121 names only the status, the result and the counts (DESIGN CHOICE, log 15). -/
def finishGroup (r : ResultCode) (s : State) : State :=
  raiseEdge stripSource causeGroupDone <| s.updGroup fun g =>
    { g with result := r, endSec := s.line.seconds, status := .ended }

/-- Every taken member has ended (R116). -/
def groupComplete (g : Group) : Bool := g.status == .active && g.taken == g.done + g.failed + g.cancelled

/-- The group ends when every taken member has ended (R116). -/
def groupCheck (s : State) : State := if groupComplete s.plans.group then finishGroup .groupDone s else s

/-! ### Ending a plan (R103) -/

/-- The slot fields that an end writes. -/
def slotAtEnd (s : State) (out : PlanOutcome) (x : ActionSlot) : ActionSlot :=
  { x with used := true, result := outcomeResult out, endSec := s.line.seconds }

/-- The steps of R103, with every report but the Guard's release and the group's check of its end. -/
def closePlan (o : OutletIx) (p : Plan) (out : PlanOutcome) (s : State) : State :=
  groupEnd p.groupMember out
    (shedPlanEnd o p.origin
      (watchPlanEnd o p.origin out
        ((raiseEdge (outletSource o) causeOpDone (s.updSlot o (slotAtEnd s out))).setPlan o none)))

/-- End the outlet's plan, without the check of the group's end. -/
def endPlanUnchecked (o : OutletIx) (out : PlanOutcome) (s : State) : State :=
  match s.plan o with
  | some p => releaseAtEnd o (closePlan o p out s)
  | none => s

/-- End the outlet's plan (R103). -/
def endPlan (o : OutletIx) (out : PlanOutcome) (s : State) : State := groupCheck (endPlanUnchecked o out s)

/-! ### The superseding OFF (R110) -/

/-- Where a superseding OFF goes when it looks at the position. -/
inductive Look where
  | finish (out : PlanOutcome)
  | queue
deriving DecidableEq, Repr

/-- On looking at the position (R110). -/
def lookAt : Position → Look
  | .open | .openUnverified => .finish .doneNoChange
  | .faultStuckClosed => .finish .failedToOpen
  | .closed | .closedUnverified | .unknown | .faultStuckOpen => .queue

/-- The superseding OFF looks at the position and ends or queues its opening (R110). -/
def lookAndGo (o : OutletIx) (s : State) : State :=
  match lookAt (s.position o) with
  | .finish out => endPlan o out s
  | .queue => enterQueued o .open s.ms s

/-- The superseding plan: it waits when an operation is in flight, its step by that operation (R110). -/
def supersedingPlan (s : State) (o : OutletIx) (r : PlanRequest) (old : Plan) : Plan :=
  let p := newPlan s o r .queuedOpen (some (old.origin, old.kind))
  match s.op o with
  | some op => { p with step := operationStep op.direction, waiting := true }
  | none => p

/-- The reports of a supersede: the old plan's silent end, then the new plan's creation (R103, R110, R112)
(DEDUCED, log 14). -/
def reportSupersede (o : OutletIx) (old : Plan) (s : State) : State :=
  reportCreation o .posted
    (groupCheck (groupEnd old.groupMember .superseded
      (shedPlanEnd o old.origin (watchPlanEnd o old.origin .superseded s))))

/-- An OFF posting supersedes the outlet's plan (R110). -/
def supersede (o : OutletIx) (old : Plan) (r : PlanRequest) (s : State) : State :=
  let p := supersedingPlan s o r old
  let t := reportSupersede o old (removeEntry o (placePlan o r p s))
  if p.waiting then t else lookAndGo o t

/-! ### Reports that a plan takes -/

/-- The plan enters DWELL (R99). -/
def enterDwell (o : OutletIx) (p : Plan) (s : State) : State :=
  s.setPlan o (some { p with step := .dwell, dwellEnd := s.now + p.dwell * Config.countsPerSecond })

/-- The next step of a plan with no held cancel and no wait, at its operation's end (R98). -/
def nextStep (o : OutletIx) (p : Plan) (r : OpResult) (s : State) : State :=
  match p.kind, p.step, r with
  | .cycle, .opening, .done => enterDwell o p s
  | .cycle, .opening, .notVerified => enterDwell o { p with openingUnverified := true } s
  | .cycle, .closing, .done => endPlan o (if p.openingUnverified then .notVerified else .done) s
  | _, _, _ => endPlan o (opOutcome r) s

/-- The end of the outlet's operation reaches its plan (R98, R109, R110). -/
def planOpEnd (o : OutletIx) (r : OpResult) (s : State) : State :=
  match s.plan o with
  | none => s
  | some p =>
    if r = .reset then endPlan o .reset s
    else if p.heldCancel then endPlan o .cancelled s
    else if p.waiting then lookAndGo o (s.setPlan o (some { p with waiting := false }))
    else nextStep o p r s

/-- A withdrawal reaches the outlet's plan (R100). -/
def planWithdrawn (o : OutletIx) (enteredAt : BitVec 32) (s : State) : State :=
  match s.plan o with
  | none => s
  | some p =>
    if p.heldCancel then endPlan o .cancelled s
    else if p.waiting then lookAndGo o (s.setPlan o (some { p with waiting := false }))
    else enterQueued o .close enteredAt s

/-- What a position change by resolution does to a plan (R101): the outcome, when it ends it. -/
def resolvedOutcome (p : Plan) (pos : Position) : Option PlanOutcome :=
  match p.step, p.kind, pos with
  | .queuedClose, .on, .closed => some .doneNoChange
  | .queuedClose, .cycle, .closed => some .notVerified
  | .queuedOpen, .off, .open => some .doneNoChange
  | .queuedOpen, .cycle, .open => some .doneNoChange
  | _, _, _ => none

/-- A resolution has changed the outlet's position (R101). -/
def planResolved (o : OutletIx) (s : State) : State :=
  match s.plan o with
  | none => s
  | some p =>
    match resolvedOutcome p (s.position o) with
    | some out => endPlan o out (removeEntry o s)
    | none => s

/-- The closing's admission deadline has expired (R102). -/
def planTimedOut (o : OutletIx) (s : State) : State := endPlan o .loadTimeout (removeEntry o s)

/-- The dwell runs out (R99). -/
def dwellOver (o : OutletIx) (s : State) : State :=
  if isClosed (s.position o) then endPlan o .notVerified s else enterQueued o .close s.ms s

/-- A CANCEL taken on a plan (R109). -/
def cancelPlan (o : OutletIx) (p : Plan) (s : State) : State :=
  match p.step with
  | .queuedOpen | .queuedClose => endPlan o .cancelled (removeEntry o s)
  | .dwell => endPlan o .cancelled s
  | .opening | .closing => s.setPlan o (some { p with heldCancel := true })

/-! ### Judging (R106) -/

/-- The verdict of R106 on a kind and a position. -/
inductive Verdict where
  | refuse (code : ResultCode)
  | endAtOnce
  | queue (d : Direction)
deriving DecidableEq, Repr

/-- The table of R106 for ON, OFF and CYCLE. -/
def judge : PlanKind → Position → Verdict
  | .on, .faultStuckOpen | .on, .faultStuckClosed => .refuse .fault
  | .on, .closed | .on, .closedUnverified => .endAtOnce
  | .on, .open | .on, .openUnverified | .on, .unknown => .queue .close
  | .off, .faultStuckClosed => .refuse .fault
  | .off, .open | .off, .openUnverified => .endAtOnce
  | .off, .closed | .off, .closedUnverified | .off, .unknown | .off, .faultStuckOpen => .queue .open
  | .cycle, .faultStuckOpen | .cycle, .faultStuckClosed => .refuse .fault
  | .cycle, .closed | .cycle, .closedUnverified => .queue .open
  | .cycle, .open | .cycle, .openUnverified | .cycle, .unknown => .refuse .notOn

/-- The step a plan that ends at once is created in. -/
def firstStep : PlanKind → PlanStep
  | .on => .queuedClose
  | .off | .cycle => .queuedOpen

/-- Create a plan and end it at once, DONE_NO_CHANGE (R106), without the check of the group's end. -/
def createEnded (o : OutletIx) (r : PlanRequest) (s : State) : State :=
  endPlanUnchecked o .doneNoChange (createPlan o r (firstStep r.kind) s)

/-- A posting refused on a slot that is not ACTIVE (R107). -/
def refuseIdle (o : OutletIx) (origin : Origin) (kind : Word) (tag : BitVec 8) (code : ResultCode) (s : State) :
    State :=
  raiseEdge (outletSource o) causeOpRefused <| s.updSlot o fun _ =>
    { used := true
      origin := some origin
      kind := kind
      result := code
      tag := tag
      endSec := s.line.seconds
      replaced := none
      refusal := code
      refusalTag := tag }

/-- A posting refused on an ACTIVE slot (R108). -/
def refuseActive (o : OutletIx) (tag : BitVec 8) (code : ResultCode) (s : State) : State :=
  raiseEdge (outletSource o) causeOpRefused <| s.updSlot o fun x => { x with refusal := code, refusalTag := tag }

/-! ### Postings (R105 to R110) -/

/-- The tag that a posting captures. -/
def slotTag (s : State) (o : OutletIx) : BitVec 8 := (Memory.word s.xm (outletBase o + 0x42)).extractLsb' 0 8

/-- The dwell override that a posting captures. -/
def slotOverride (s : State) (o : OutletIx) : Nat := (Memory.word s.xm (outletBase o + 0x44)).toNat

/-- The request of a posting. -/
def postedRequest (s : State) (o : OutletIx) (k : PlanKind) : PlanRequest :=
  { kind := k, origin := .posted, tag := slotTag s o, override := slotOverride s o, member := false }

/-- A posting of a plan kind on a slot that is EMPTY or ENDED (R106). -/
def postIdle (o : OutletIx) (k : PlanKind) (s : State) : State :=
  match judge k (s.position o) with
  | .refuse code => refuseIdle o .posted (kindWord k) (slotTag s o) code s
  | .endAtOnce => groupCheck (createEnded o (postedRequest s o k) s)
  | .queue d => createQueued o (postedRequest s o k) d s

/-- A posting of a plan kind on an ACTIVE slot (R108). -/
def postActive (o : OutletIx) (p : Plan) (k : PlanKind) (s : State) : State :=
  match k with
  | .off => supersede o p (postedRequest s o .off) s
  | .on | .cycle => refuseActive o (slotTag s o) .busy s

/-- A posting of a plan kind (R105). -/
def postKind (o : OutletIx) (k : PlanKind) (s : State) : State :=
  match s.plan o with
  | none => postIdle o k s
  | some p => postActive o p k s

/-- A CANCEL posting (R106, R109). -/
def postCancel (o : OutletIx) (s : State) : State :=
  match s.plan o with
  | none => refuseIdle o .posted cancelWord (slotTag s o) .nothingToCancel s
  | some p => cancelPlan o p s

/-- A posting of an unknown kind (R106, R108). -/
def postUnknown (o : OutletIx) (v : Word) (s : State) : State :=
  match s.plan o with
  | none => refuseIdle o .posted v (slotTag s o) .badKind s
  | some _ => refuseActive o (slotTag s o) .badKind s

/-- A host write to an outlet's command word, by the written value (R105). -/
def post (o : OutletIx) (v : Word) (s : State) : State :=
  if v = cancelWord then postCancel o s
  else match kindOfWord v with
  | some k => postKind o k s
  | none => postUnknown o v s

/-! ### Internal requests (R111) -/

/-- The answer to an internal request. -/
inductive Answer where
  | taken
  | declined (code : ResultCode)
  | endedAtOnce
deriving DecidableEq, Repr

/-- The answer that the Plan Unit gives (R111). -/
def answerRequest (s : State) (o : OutletIx) (k : PlanKind) : Answer :=
  match s.plan o with
  | some _ => .declined .busy
  | none =>
    match judge k (s.position o) with
    | .refuse code => .declined code
    | .endAtOnce => .endedAtOnce
    | .queue _ => .taken

/-- A posting or a request of a kind creates a plan of the outlet, which has none (R106, R111). -/
def createsPlan (s : State) (o : OutletIx) (k : PlanKind) : Bool :=
  match answerRequest s o k with
  | .taken | .endedAtOnce => true
  | .declined _ => false

/-- A value written to an outlet's command word creates a plan of an outlet (R105, R106). -/
def postCreates (o : OutletIx) (v : Word) (s : State) (x : OutletIx) : Bool :=
  x == o && (kindOfWord v).any fun k => createsPlan s x k

/-- An internal request acts as R106 judges it; a declined one writes nothing (R111). -/
def requestPlan (o : OutletIx) (k : PlanKind) (origin : Origin) (s : State) : State :=
  match s.plan o with
  | some _ => s
  | none =>
    match judge k (s.position o) with
    | .refuse _ => s
    | .endAtOnce => groupCheck (createEnded o (internalRequest k origin) s)
    | .queue d => createQueued o (internalRequest k origin) d s

/-- The power-on policy request of one outlet (R118). -/
def policyRequest (o : OutletIx) (s : State) : State :=
  match (s.ocfg o).policy with
  | .keep => s
  | .on => if isClosed (s.position o) then s else requestPlan o .on .policy s
  | .off => if isOpen (s.position o) then s else requestPlan o .off .policy s

/-- The power-on policy creates a plan of an outlet (R118). -/
def policyCreates (s : State) (x : OutletIx) : Bool :=
  !s.plans.policyDone && match (s.ocfg x).policy with
  | .keep => false
  | .on => !isClosed (s.position x) && createsPlan s x .on
  | .off => !isOpen (s.position x) && createsPlan s x .off

/-- The power-on policy at the first RUNNING after power-on reset (R118). -/
def applyPolicy (s : State) : State :=
  if s.plans.policyDone then s
  else forAll allOutlets policyRequest (s.updPlans fun x => { x with policyDone := true })

/-! ### Group operations (R113 to R117) -/

/-- The membership set that a group posting captures. -/
def groupMembers (s : State) : BitVec 48 :=
  Memory.word s.xm 0x60 ++ Memory.word s.xm 0x5E ++ Memory.word s.xm 0x5C

/-- The group dwell override that a group posting captures. -/
def groupOverride (s : State) : Nat := (Memory.word s.xm 0x62).toNat

/-- The request of a group member's posting (R114). -/
def memberRequest (s : State) (k : PlanKind) : PlanRequest :=
  { kind := k, origin := .group, tag := 0, override := groupOverride s, member := true }

/-- Judge one member whose slot is not ACTIVE (R114). -/
def judgeMember (k : PlanKind) (o : OutletIx) (s : State) : State :=
  match judge k (s.position o) with
  | .refuse code =>
    refuseIdle o .group (kindWord k) 0 code (s.updGroup fun g => { g with refused := g.refused + 1 })
  | .endAtOnce => createEnded o (memberRequest s k) (s.updGroup fun g => { g with taken := g.taken + 1 })
  | .queue d => createQueued o (memberRequest s k) d (s.updGroup fun g => { g with taken := g.taken + 1 })

/-- Judge one outlet of the captured set (R114). -/
def groupStep (k : PlanKind) (members : BitVec 48) (o : OutletIx) (s : State) : State :=
  if members.getLsbD o.val then
    match s.plan o with
    | some _ => s.updGroup fun g => { g with busy := g.busy + 1 }
    | none => judgeMember k o s
  else s

/-- The strip slot as a group posting that is taken first writes it (R114). -/
def groupOpened (s : State) (k : PlanKind) (g : Group) : Group :=
  { g with
    status := .active
    kind := kindWord k
    result := .none
    members := groupMembers s
    requested := popCount (groupMembers s)
    taken := 0
    busy := 0
    refused := 0
    done := 0
    failed := 0
    cancelled := 0 }

/-- A group posting is taken: every member is judged in outlet order, then the group's end is checked
(R114). -/
def takeGroup (k : PlanKind) (s : State) : State :=
  groupCheck (forAll allOutlets (groupStep k (groupMembers s)) (s.updGroup (groupOpened s k)))

/-- A group posting refused on a strip slot that is not ACTIVE (R113). -/
def refuseGroupIdle (kind : Word) (code : ResultCode) (s : State) : State :=
  raiseEdge stripSource causeStripRefused <| s.updGroup fun g =>
    { g with
      status := .ended
      kind := kind
      result := code
      taken := 0
      busy := 0
      refused := 0
      done := 0
      failed := 0
      cancelled := 0
      requested := 0
      endSec := s.line.seconds
      refusal := code }

/-- A group posting refused on an ACTIVE strip slot, into last refusal only (R113). -/
def refuseGroupActive (code : ResultCode) (s : State) : State :=
  raiseEdge stripSource causeStripRefused (s.updGroup fun g => { g with refusal := code })

/-- The strip slot is ACTIVE. -/
def groupActive (s : State) : Bool := s.plans.group.status == .active

/-- A value written to the strip command word creates a plan of an outlet (R113, R114). -/
def groupCreates (v : Word) (s : State) (x : OutletIx) : Bool :=
  !groupActive s && (groupMembers s).getLsbD x.val && (kindOfWord v).any fun k => createsPlan s x k

/-- A strip CANCEL reaches one outlet (R117). -/
def cancelMember (o : OutletIx) (s : State) : State :=
  match s.plan o with
  | some p => if p.groupMember then cancelPlan o p s else s
  | none => s

/-- A GROUP_ON, GROUP_OFF or GROUP_CYCLE posting (R113). -/
def groupKind (k : PlanKind) (s : State) : State :=
  if groupActive s then refuseGroupActive .busy s else takeGroup k s

/-- A CANCEL of the strip slot (R113, R117). -/
def groupCancelPosting (s : State) : State :=
  if groupActive s then forAll allOutlets cancelMember s else refuseGroupIdle cancelWord .nothingToCancel s

/-- An unknown kind in the strip command word (R113). -/
def groupUnknown (v : Word) (s : State) : State :=
  if groupActive s then refuseGroupActive .badKind s else refuseGroupIdle v .badKind s

/-- A host write to the strip command word, by the written value (R113). -/
def postGroup (v : Word) (s : State) : State :=
  if v = cancelWord then groupCancelPosting s
  else match kindOfWord v with
  | some k => groupKind k s
  | none => groupUnknown v s

/-! ### Warm reset (R121) -/

/-- The outlet's plan survives the warm reset until its pulse ends (R121). -/
def isPulsing (s : State) (o : OutletIx) : Bool :=
  match s.op o with
  | some p => p.stage == .pulsing
  | none => false

/-- The outlet has a plan that the warm reset ends now. -/
def endsAtWarm (s : State) (o : OutletIx) : Bool := (s.plan o).isSome && !isPulsing s o

/-- End one plan RESET, leaving the Guard's release for after the warm reset (R121, R137). -/
def warmEndPlan (o : OutletIx) (s : State) : State :=
  match s.plan o with
  | some p => if isPulsing s o then s else closePlan o p .reset s
  | none => s

/-- A member plan whose pulse still runs is no longer counted (R121). -/
def dropMember (o : OutletIx) (s : State) : State :=
  match s.plan o with
  | some p => s.setPlan o (some { p with groupMember := false })
  | none => s

/-- The group record ends at the warm reset with the counts as they stand (R121). -/
def warmGroup (s : State) : State :=
  if groupActive s then forAll allOutlets dropMember (finishGroup .reset s) else s

end Sys2Proof.Machine
end

