-- ==== Sys2Proof/Machine/RelayOps.lean ====
section
/-! DEFINITION. The Relay Controller's operations: sense, resolution, pulses, verification, the end and the
withdrawal of an operation (03_relay_operations.md, R47 to R69). -/

namespace Sys2Proof.Machine

/-- Change an outlet's operation context when it has one. -/
def State.updOp (s : State) (o : OutletIx) (f : Op → Op) : State :=
  s.updRelay o fun r => { r with op := r.op.map f }

/-! ### Sense and resolution (R48, R49) -/

/-- The history with one more value: the 65th value back leaves it (R48). -/
def pushSense (v : Bool) (h : List Bool) : List Bool := (v :: h).take Config.historyLength

/-- The qualified sense after a history update (R48). -/
def qualify (h : List Bool) (old : Sense) : Sense :=
  if h.length = Config.historyLength then
    if Config.presentCount ≤ h.count true then .present
    else if h.count true = 0 then .absent
    else old
  else old

/-- One outlet's sense at a complete slot (R48). -/
def senseOne (v : Bool) (r : RelayOutlet) : RelayOutlet :=
  { r with history := pushSense v r.history, sense := qualify (pushSense v r.history) r.sense }

/-- Every outlet's sense at a complete slot (R48). -/
def senseAll (sense : BitVec 48) (s : State) : State :=
  { s with relay := Vector.ofFn fun o : Fin 48 => senseOne (sense.getLsbD o.val) s.relay[o] }

/-- The position that a resolution gives, when it changes one (R49). -/
def resolvedPosition (s : State) (o : OutletIx) : Option Position :=
  if isResolvable (s.position o) ∧ s.isLive (branchOf o) ∧ (s.op o).isNone then
    match s.relay[o].sense with
    | .present => some .closed
    | .absent => some .open
    | .unresolved => none
  else none

/-- Resolve one outlet and report the change of position to the Plan Unit (R49, R101). -/
def resolveOne (o : OutletIx) (s : State) : State :=
  match resolvedPosition s o with
  | some p => planResolved o (s.setPosition o p)
  | none => s

/-- Resolve the outlets of a list. -/
def resolveAll (os : List OutletIx) (s : State) : State := forAll os resolveOne s

/-! ### The end of an operation (R64) -/

/-- RELAY_FAULT at a FAILED result (R63). -/
def raiseFault (o : OutletIx) (r : OpResult) (s : State) : State :=
  match r with
  | .failedToClose | .failedToOpen => raiseEdge (outletSource o) causeRelayFault s
  | .done | .notVerified | .reset => s

/-- The position takes the outcome, the context is removed, and the result is reported (R64)
(order: DESIGN CHOICE, log 11). -/
def endOperation (o : OutletIx) (d : Direction) (r : OpResult) (pos : Position) (s : State) : State :=
  watchOpEnd o d r (planOpEnd o r (raiseFault o r ((s.setPosition o pos).setOp o none)))

/-- The operation ends NOT_VERIFIED with the unverified position of its direction (R59, R61). -/
def endUnverified (o : OutletIx) (d : Direction) (s : State) : State :=
  endOperation o d .notVerified (unverified d) s

/-! ### Withdrawal and deferral (R56) -/

/-- A first-attempt closing in AIMING. -/
def isFirstClosingInAim (p : Op) : Bool := p.stage == .aiming && p.direction == .close && p.attempt == .first

/-- A closing is withdrawn: the reservation is freed, the plan takes it back, and a pass is made (R56). The pass
of the plan's entry that joins comes first, the pass of the freed reservation after it (DESIGN CHOICE, log 11). -/
def withdraw (o : OutletIx) (p : Op) (s : State) : State :=
  dispatchPass (planWithdrawn o p.enteredAt
    ((s.setOp o none).updSched fun x => { x with inAim := if x.inAim = some o then none else x.inAim }))

/-- The conditions that let a closing stay: branch LIVE and RUNNING (R56). -/
def mayClose (s : State) (o : OutletIx) : Bool := s.isLive (branchOf o) && s.port.running

/-- Withdraw the outlet's first-attempt closing in AIMING when its branch or the run state no longer allows
it (R56). -/
def withdrawIfBarred (o : OutletIx) (s : State) : State :=
  match s.op o with
  | some p => if isFirstClosingInAim p ∧ mayClose s o = false then withdraw o p s else s
  | none => s

/-- Both closing spacings have passed for an outlet (R56). -/
def spacingsPassed (s : State) (o : OutletIx) : Bool :=
  branchSpacingPassed s (branchOf o) && stripSpacingPassed s

/-- A deferred closing aims again (R56): the cycle-start limit counts from here, and an IMMEDIATE aim pulses
at once. -/
def reAim (p : Op) : Op := { p with deferred := false, cyclesSeen := 0, pulseDue := p.aim == .immediate }

/-- Every deferred closing aims again from the moment both spacings have passed (R56, R86). -/
def reAimDeferred (s : State) : State :=
  { s with relay := Vector.ofFn fun o : Fin 48 =>
      { s.relay[o] with op := s.relay[o].op.map fun p =>
          if isFirstClosingInAim p ∧ p.deferred ∧ spacingsPassed s o then reAim p else p } }

/-! ### Pulsing (R57, R58) -/

/-- The context at a pulse start. -/
def pulseOp (now : Nat) (p : Op) : Op :=
  { p with
    stage := .pulsing
    pulseDue := false
    deferred := false
    endsAt := now + p.pulseMs * Config.countsPerMs }

/-- The pulse starts (R57): the schedule hears of a first closing, the Capture Channel of every pulse. -/
def firePulse (o : OutletIx) (p : Op) (s : State) : State :=
  let t := s.setOp o (some (pulseOp s.now p))
  captureTrigger o (p.aim != .immediate)
    (if p.direction = .close ∧ p.attempt = .first then recordClosingStart o t else t)

/-- The pulse is deferred until both spacings have passed (R56). -/
def deferPulse (o : OutletIx) (s : State) : State :=
  s.updOp o fun p => { p with deferred := true, pulseDue := false }

/-- The moment of a pulse (R55 to R57). -/
def pulseMoment (o : OutletIx) (p : Op) (s : State) : State :=
  if p.direction = .close ∧ p.attempt = .first then
    if mayClose s o = false then withdraw o p s
    else if spacingsPassed s o = false then deferPulse o s
    else firePulse o p s
  else firePulse o p s

/-- The pulse moment has come for an outlet. -/
def pulseIsDue (s : State) (o : OutletIx) : Bool :=
  match s.op o with
  | some p => p.stage == .aiming && p.pulseDue
  | none => false

/-- The context after the pulse end (R58). -/
def settlingOp (p : Op) : Op :=
  { p with stage := .settling, endsAt := p.endsAt + p.settleMs * Config.countsPerMs }

/-- The pulse length has run out (R58, R68): SETTLING, or the end RESET of an operation that a warm reset
left pulsing. The freed reservation makes a dispatch pass. -/
def pulseOver (o : OutletIx) (p : Op) (s : State) : State :=
  if p.abandoned then dispatchPass (endOperation o p.direction .reset (unverified p.direction) s)
  else dispatchPass (s.setOp o (some (settlingOp p)))

/-- The context at the entry into VERIFYING (R59, R60). -/
def verifyingOp (p : Op) : Op :=
  { p with stage := .verifying, slotStarts := 0, samples := 0, asserted := 0, quietRun := 0 }

/-- The settle time has run out (R59). -/
def settleOver (o : OutletIx) (p : Op) (s : State) : State :=
  if s.isLive (branchOf o) then s.setOp o (some (verifyingOp p)) else endUnverified o p.direction s

/-- An operation whose stage has a length has reached its end. -/
def stageIsOver (s : State) (o : OutletIx) (st : Stage) : Bool :=
  match s.op o with
  | some p => p.stage == st && decide (p.endsAt ≤ s.now)
  | none => false

/-! ### Verifying (R60 to R63) -/

/-- The context with one more post-settle sample (R60). -/
def countSample (v : Bool) (p : Op) : Op :=
  { p with
    samples := p.samples + 1
    asserted := if v then p.asserted + 1 else p.asserted
    quietRun := if v then 0 else p.quietRun + 1 }

/-- The fresh verdict, when there is one (R60). -/
def freshVerdict (fill : Nat) (p : Op) : Option Bool :=
  if Config.presentCount ≤ p.asserted ∧ fill = Config.historyLength then some true
  else if Config.historyLength ≤ p.samples ∧ Config.historyLength ≤ p.quietRun then some false
  else none

/-- The verdict that a direction expects (R60). -/
def expects : Direction → Bool
  | .close => true
  | .open => false

/-- The operation waits for a second attempt, and a pass is made (R62, R52). -/
def enterRetry (o : OutletIx) (p : Op) (s : State) : State :=
  dispatchPass
    ((s.setOp o (some { p with stage := .retryWait })).updSched fun x => { x with retry := x.retry ++ [o] })

/-- A mismatch, or no verdict after 64 samples (R61, R63). -/
def verifyFailed (o : OutletIx) (p : Op) (s : State) : State :=
  match p.attempt with
  | .first => enterRetry o p s
  | .second => endOperation o p.direction (failedResult p.direction) (failedPosition p.direction) s

/-- The operation acts on a fresh verdict (R61, R63). -/
def actOnVerdict (o : OutletIx) (p : Op) (v : Bool) (s : State) : State :=
  if v = expects p.direction then endOperation o p.direction .done (verified p.direction) s
  else verifyFailed o p s

/-- The operation acts on no verdict at its deadline (R61, R63). -/
def actOnNoVerdict (o : OutletIx) (p : Op) (s : State) : State :=
  if Config.historyLength ≤ p.samples then verifyFailed o p s else endUnverified o p.direction s

/-- The slot that completes started at or after the settle end (R60). -/
def isPostSettle (startAt : Nat) (p : Op) : Bool := p.stage == .verifying && decide (p.endsAt ≤ startAt)

/-- One outlet's verification at a complete slot, after the history update (R60). -/
def verifyOne (startAt : Nat) (sense : BitVec 48) (o : OutletIx) (s : State) : State :=
  match s.op o with
  | none => s
  | some p =>
    if isPostSettle startAt p then
      let q := countSample (sense.getLsbD o.val) p
      let t := s.setOp o (some q)
      match freshVerdict s.relay[o].history.length q with
      | some v => actOnVerdict o q v t
      | none => t
    else s

/-- Every outlet's verification at a complete slot. -/
def verifyAll (startAt : Nat) (sense : BitVec 48) (s : State) : State :=
  forAll allOutlets (verifyOne startAt sense) s

/-- The verify deadline has come: 256 slot starts since the settle end (R60). -/
def verifyIsOver (s : State) (o : OutletIx) : Bool :=
  match s.op o with
  | some p => p.stage == .verifying && decide (Config.verifySlots ≤ p.slotStarts)
  | none => false

/-! ### Slot and cycle starts (R55, R60) -/

/-- An operation at the start of slot `k` at count `at` (DEDUCED, log 12). -/
def opSlotStart (k : SlotIx) (startAt : Nat) (p : Op) : Op :=
  match p.stage with
  | .aiming => if p.deferred = false ∧ pulseSlot p = some k then { p with pulseDue := true } else p
  | .verifying => if p.endsAt < startAt then { p with slotStarts := p.slotStarts + 1 } else p
  | .pulsing | .settling | .retryWait => p

/-- An operation at a cycle start: the second one since AIMING began makes the pulse due (R55). -/
def opCycleStart (p : Op) : Op :=
  if p.stage = .aiming ∧ p.deferred = false then
    { p with cyclesSeen := p.cyclesSeen + 1, pulseDue := p.pulseDue || decide (1 ≤ p.cyclesSeen) }
  else p

/-- Apply a function to every operation context. -/
def mapOps (f : Op → Op) (s : State) : State :=
  { s with relay := mapAll (fun r => { r with op := r.op.map f }) s.relay }

/-! ### A branch change (R67) -/

/-- The pulse of an opening or of a second attempt in AIMING starts at once on a DEAD branch (R67). -/
def pulseAtOnce (o : OutletIx) (p : Op) (s : State) : State :=
  s.updRelay o fun r =>
    { r with
      op := some { p with aim := .immediate, pulseDue := true }
      status := { r.status with aim := some .immediate } }

/-- One operation in flight at a change of its branch from or to a state that is not LIVE (R67). -/
def relayBranchOff (dead : Bool) (o : OutletIx) (s : State) : State :=
  match s.op o with
  | none => s
  | some p =>
    match p.stage with
    | .aiming =>
      if isFirstClosingInAim p then withdraw o p s else if dead then pulseAtOnce o p s else s
    | .verifying => endUnverified o p.direction s
    | .pulsing | .settling | .retryWait => s

/-! ### Warm reset (R68) and CLEAR_FAULT (R65) -/

/-- One outlet's relay state at a warm reset (R68). -/
def warmRelay (r : RelayOutlet) : RelayOutlet :=
  match r.op with
  | none => r
  | some p =>
    match p.stage with
    | .aiming | .retryWait => { r with op := none, position := p.dispatchPosition }
    | .settling | .verifying => { r with op := none, position := unverified p.direction }
    | .pulsing => { r with op := some { p with abandoned := true } }

/-- CLEAR_FAULT sets a fault position to UNKNOWN (R65). -/
def clearFaultPosition (o : OutletIx) (s : State) : State :=
  if isFault (s.position o) then s.setPosition o .unknown else s

/-- The coil outputs: the set coil of a closing and the reset coil of an opening are driven while it pulses
(R57, R58). -/
def coilDriven (s : State) (o : OutletIx) (d : Direction) : Bool :=
  match s.op o with
  | some p => p.stage == .pulsing && p.direction == d
  | none => false

end Sys2Proof.Machine
end

