-- ==== Sys2Proof/Machine/GuardOps.lean ====
section
/-! DEFINITION. The Branch Guard's operations: sense and debounce, state changes and their reports, overload,
shedding, restoring, loss and return (06_branch_guard.md, R122 to R146). -/

namespace Sys2Proof.Machine

/-! ### Conditions and reports (R125) -/

/-- The branch is overloaded: OVERLOAD or SHEDDING. -/
def isOverloaded : BranchState → Bool
  | .overload | .shedding => true
  | .dead | .returning | .live => false

/-- Hand the three branch level causes to the Notice Unit (R125). -/
def handBranchConditions (b : BranchIx) (s : State) : State :=
  let g := s.gbranch b
  setCondition (branchSource b) causeBranchDead (g.state == .dead)
    (setCondition (branchSource b) causeOverloadUnresolved (g.state == .shedding && g.shedPhase == .noCandidate)
      (setCondition (branchSource b) causeBranchOverload (isOverloaded g.state) s))

/-- The schedule at a change of a branch's state (R91). -/
def schedBranchChange (b : BranchIx) (new : BranchState) (s : State) : State :=
  if new = .live then dispatchPass (repause s) else branchWaits b (repause s)

/-- The change reaches the operations in flight: it leaves LIVE, or it is a change to DEAD (R67). -/
def touchesOperations (old new : BranchState) : Bool := new != .live && (old == .live || new == .dead)

/-- The Relay Controller at a change of a branch's state (R67, R49). -/
def relayBranchChange (b : BranchIx) (old new : BranchState) (s : State) : State :=
  if new = .live then resolveAll (outletsOf b) s
  else if touchesOperations old new then forAll (outletsOf b) (relayBranchOff (new == .dead)) s
  else s

/-- The restore hold stops at each change of the branch from LIVE (R134). -/
def moveBranch (new : BranchState) (g : GuardBranch) : GuardBranch :=
  { g with state := new, restoreHold := if new = .live then g.restoreHold else none }

/-- A branch changes state, and the change is reported (R125). -/
def changeBranch (b : BranchIx) (new : BranchState) (s : State) : State :=
  let old := (s.gbranch b).state
  let t := handBranchConditions b (s.updBranch b (moveBranch new))
  reevaluateAll (outletsOf b) (schedBranchChange b new (relayBranchChange b old new t))

/-! ### Loss and release (R136, R137) -/

/-- The release sweep examines the outlets of the branch in outlet order (R137). -/
def sweepOne (o : OutletIx) (s : State) : State := if releasable s o then requestRelease o s else s

def releaseSweep (b : BranchIx) (s : State) : State := forAll (outletsOf b) sweepOne s

/-- What a branch leaving overload clears. -/
def clearOverload (g : GuardBranch) : GuardBranch :=
  { g with overloadRun := 0, shedPhase := .none, shedOutlet := none, stepCount := 0 }

/-- The branch enters DEAD (R136). -/
def enterDead (b : BranchIx) (s : State) : State :=
  let t := changeBranch b .dead (s.updBranch b fun g => { clearOverload g with returnFrom := none })
  if (s.bcfg b).releasePolicy then releaseSweep b t else t

/-! ### Return (R138, R139) -/

/-- A RESTORE ON request for a release-marked outlet (R139): taken or ended at once, its mark clears. -/
def releaseRestore (o : OutletIx) (s : State) : State :=
  if (s.marks o).release then
    match answerRequest s o .on with
    | .declined _ => s
    | .taken | .endedAtOnce =>
      requestPlan o .on .restore (s.updMarks o fun m => { m with release := false })
  else s

/-- RESTORE ON requests for every release-marked outlet of the branch, in outlet order (R139). -/
def releaseRestores (b : BranchIx) (s : State) : State := forAll (outletsOf b) releaseRestore s

/-- The branch enters LIVE from RETURNING (R139). -/
def enterLive (b : BranchIx) (s : State) : State :=
  releaseRestores b (changeBranch b .live (s.updBranch b fun g => { clearOverload g with returnFrom := none }))

/-- The return timer has reached the applied return delay (R138). -/
def returnIsOver (s : State) (b : BranchIx) : Bool :=
  match (s.gbranch b).returnFrom with
  | some t => decide (t + (s.bcfg b).returnDelay * Config.countsPerSecond ≤ s.now)
  | none => false

/-- The return timer's expiry, when it has come (R138). -/
def returnIfOver (b : BranchIx) (s : State) : State := if returnIsOver s b then enterLive b s else s

/-- The branch enters RETURNING; a return delay of 0 takes it to LIVE at the same event (R138). -/
def enterReturning (b : BranchIx) (s : State) : State :=
  returnIfOver b (changeBranch b .returning (s.updBranch b fun g => { g with returnFrom := some s.now }))

/-! ### Sense and debounce (R122 to R124) -/

/-- The debounced sense takes the corrected value, and the branch state follows (R123, R124). -/
def debouncedChange (b : BranchIx) (s : State) : State :=
  let v := s.corrected b
  let t := s.updBranch b fun g => { g with debounced := v, debounceFrom := none }
  if v then if (t.gbranch b).state = .dead then enterReturning b t else t
  else if (t.gbranch b).state = .dead then t else enterDead b t

/-- The debounce timer has reached the applied debounce time (R123). -/
def debounceIsOver (s : State) (b : BranchIx) : Bool :=
  match (s.gbranch b).debounceFrom with
  | some t => decide (t + (s.bcfg b).debounceMs * Config.countsPerMs ≤ s.now)
  | none => false

/-- The debounced change, when its time has come. -/
def debounceIfOver (b : BranchIx) (s : State) : State := if debounceIsOver s b then debouncedChange b s else s

/-- The corrected sense has changed: the timer starts at 0 or stops, and a debounce time of 0 takes the
change at once (R123). -/
def correctedChange (b : BranchIx) (s : State) : State :=
  if s.corrected b = (s.gbranch b).debounced then s.updBranch b fun g => { g with debounceFrom := none }
  else debounceIfOver b (s.updBranch b fun g => { g with debounceFrom := some s.now })

/-- The branch-sense input takes a level (R122). -/
def takeInput (b : BranchIx) (level : Bool) (s : State) : State :=
  if (s.gbranch b).input = level then s
  else correctedChange b (s.updBranch b fun g => { g with input := level })

/-! ### Thresholds (R126) -/

/-- The overload threshold. -/
def overloadThreshold (c : BranchSettings) : Nat := c.rated * c.overload / 100

/-- The restore threshold. -/
def restoreThreshold (c : BranchSettings) : Nat := c.rated * c.restore / 100

/-- The branch reads above its overload threshold. -/
def isAbove (s : State) (b : BranchIx) : Bool := decide (overloadThreshold (s.bcfg b) < (s.bmeter b).irms)

/-! ### Shedding (R129 to R132) -/

/-- The outlet meets the conditions of a shed selection (R129). -/
def sheddable (s : State) (o : OutletIx) : Bool :=
  isClosed (s.position o) && (s.plan o).isNone && (s.ocfg o).shedRank != 0

/-- The shed selection: the highest shed rank, then the higher outlet number (R129). -/
def shedChoice (s : State) (b : BranchIx) : Option OutletIx :=
  bestBy (fun x y => (s.ocfg y).shedRank < (s.ocfg x).shedRank
      || ((s.ocfg x).shedRank == (s.ocfg y).shedRank && y < x))
    ((outletsOf b).filter (sheddable s))

/-- The shed request of the chosen outlet (R130): mark, cause, shed outlet, and the SHED OFF plan. -/
def requestShed (b : BranchIx) (o : OutletIx) (s : State) : State :=
  createQueued o (internalRequest .off .shed) .open
    (raiseEdge (outletSource o) causeShed
      ((s.updMarks o fun m => { m with shed := true }).updBranch b fun g =>
        { g with shedOutlet := some o, shedPhase := .planRunning }))

/-- A shed selection with its request, or NO_CANDIDATE (R129, R132). -/
def shedSelection (b : BranchIx) (s : State) : State :=
  let t := s.updBranch b fun g => { g with stepCount := 0 }
  handBranchConditions b
    (match shedChoice t b with
    | some o => requestShed b o t
    | none => t.updBranch b fun g => { g with shedPhase := .noCandidate })

/-- The branch enters SHEDDING (R129). The change is reported before the selection is made, so an outlet whose
plan the report ends can be chosen (DESIGN CHOICE, log 11). -/
def enterShedding (b : BranchIx) (s : State) : State := shedSelection b (changeBranch b .shedding s)

/-- The branch returns to LIVE from OVERLOAD or SHEDDING (R128, R131, R132). -/
def overloadOver (b : BranchIx) (s : State) : State :=
  changeBranch b .live (s.updBranch b clearOverload)

/-- A counted close in STEPPING (R131). -/
def stepClose (b : BranchIx) (s : State) : State :=
  let t := s.updBranch b fun g => { g with stepCount := min 60 (g.stepCount + 1) }
  if (t.bcfg b).shedStep ≤ (t.gbranch b).stepCount then
    if isAbove t b then shedSelection b t else overloadOver b t
  else t

/-- A close with samples on a branch in SHEDDING (R131, R132) (NONE: DESIGN CHOICE, log 20). -/
def sheddingClose (b : BranchIx) (s : State) : State :=
  match (s.gbranch b).shedPhase with
  | .planRunning => s
  | .stepping => stepClose b s
  | .noCandidate | .none => if isAbove s b then shedSelection b s else overloadOver b s

/-! ### Restoring (R134, R135) -/

/-- The restore condition at a close (R134). -/
def restoreCondition (s : State) (b : BranchIx) : Bool :=
  s.isLive b && anyShedMark s b && decide ((s.bmeter b).irms ≤ restoreThreshold (s.bcfg b))

/-- The outlet meets the conditions of a restore selection (R135). -/
def restorable (s : State) (o : OutletIx) : Bool :=
  (s.marks o).shed && (s.plan o).isNone && !isFault (s.position o)

/-- The restore selection: the lowest shed rank, then the lower outlet number (R135). -/
def restoreChoice (s : State) (b : BranchIx) : Option OutletIx :=
  bestBy (fun x y => (s.ocfg x).shedRank < (s.ocfg y).shedRank) ((outletsOf b).filter (restorable s))

/-- A restore selection with its request: the mark clears, and the restore hold restarts at 0 (R135)
(DEDUCED, log 16). -/
def restoreSelection (b : BranchIx) (s : State) : State :=
  match restoreChoice s b with
  | none => s
  | some o =>
    (requestPlan o .on .restore (clearShedMark o s)).updBranch b fun g => { g with restoreHold := some 0 }

/-- The restore hold at a close at which the condition is evaluated (R134). -/
def holdAtClose (holds : Bool) (h : Option Nat) : Option Nat := if holds then some (h.getD 0) else none

/-- The restore condition is evaluated at a close at which the branch stays LIVE (R134). -/
def restoreClose (b : BranchIx) (s : State) : State :=
  let t := s.updBranch b fun g => { g with restoreHold := holdAtClose (restoreCondition s b) g.restoreHold }
  match (t.gbranch b).restoreHold with
  | some h => if (t.bcfg b).restoreDelay ≤ h then restoreSelection b t else t
  | none => t

/-! ### A window close (R127, R128) -/

/-- The overload run after one more close above the threshold. -/
def raiseRun (g : GuardBranch) : GuardBranch := { g with overloadRun := min 60 (g.overloadRun + 1) }

/-- The overload run has reached the applied persistence. -/
def persists (s : State) (b : BranchIx) : Bool := decide ((s.bcfg b).persistence ≤ (s.gbranch b).overloadRun)

/-- A close with samples on a LIVE branch (R127) (release restores: DEDUCED, log 16). The release restores of R139
come before the restore condition of R134, so an outlet that carries both marks keeps its shed mark (DESIGN CHOICE,
log 11). -/
def liveClose (b : BranchIx) (s : State) : State :=
  if isAbove s b then
    let t := s.updBranch b fun g => { g with overloadRun := 1 }
    if persists t b then enterShedding b t else changeBranch b .overload t
  else restoreClose b (releaseRestores b s)

/-- A close with samples on a branch in OVERLOAD (R128). -/
def overloadClose (b : BranchIx) (s : State) : State :=
  if isAbove s b then
    let t := s.updBranch b raiseRun
    if persists t b then enterShedding b t else t
  else overloadOver b s

/-- A close with samples on a branch. -/
def branchClose (b : BranchIx) (s : State) : State :=
  match (s.gbranch b).state with
  | .live => liveClose b s
  | .overload => overloadClose b s
  | .shedding => sheddingClose b s
  | .dead | .returning => s

/-- A close reaches one branch: a stale close makes no test, and the conditions are handed over in any case
(R125, R127). -/
def guardCloseOne (b : BranchIx) (s : State) : State :=
  handBranchConditions b (if s.meter.lastClose.stale then s else branchClose b s)

/-- A close reaches every branch. -/
def guardClose (s : State) : State := forAll allBranches guardCloseOne s

/-- The restore holds at a tick (R134). -/
def tickGuard (s : State) : State :=
  s.updGuard fun x =>
    { x with branches := mapAll (fun g => { g with restoreHold := g.restoreHold.map fun h => min 3600 (h + 1) }) x.branches }

/-! ### Warm reset (R146) -/

/-- A warm reset of one branch (R146). -/
def warmBranch (b : BranchIx) (s : State) : State :=
  let t := s.updBranch b fun g => { g with restoreHold := none }
  if isOverloaded (t.gbranch b).state then overloadOver b t else t

/-- A warm reset of every branch. -/
def guardWarm (s : State) : State := forAll allBranches warmBranch s

end Sys2Proof.Machine
end

