-- ==== Sys2Proof/Machine/StallOps.lean ====
section
/-! DEFINITION. The declaration of a stall (R155), and the events of a tick that wait for their own step
(R154 to R156, R190). -/

namespace Sys2Proof.Machine

/-- The outlet enters STALLED with its attempts kept (R155). -/
def enterStalled (o : OutletIx) (s : State) : State := s.updOutletWatch o fun w => { w with state := .stalled }

/-- The WATCH CYCLE request of a declaration (R155): taken, the attempts increase and the outlet recovers;
declined, it is STALLED. -/
def requestRecovery (o : OutletIx) (s : State) : State :=
  match answerRequest s o .cycle with
  | .taken =>
    (requestPlan o .cycle .watch (s.updOutletWatch o fun w => { w with attempts := w.attempts + 1 })).updOutletWatch o
      fun w => { w with state := .recovering }
  | .declined _ | .endedAtOnce => enterStalled o s

/-- A stall is declared, with what its request to the Plan Unit does (R155). -/
def declareStallBy (request : OutletIx → State → State) (o : OutletIx) (s : State) : State :=
  let t := raiseEdge (outletSource o) causeStall (s.updOutletWatch o fun w => { w with healthy := 0 })
  if (t.ocfg o).autoRecover then
    if (t.owatch o).attempts < (t.ocfg o).attemptLimit then request o t else giveUp o t
  else enterStalled o t

/-- A stall is declared (R155). -/
def declareStall (o : OutletIx) (s : State) : State := declareStallBy requestRecovery o s

/-- Carry out an event of the tick. -/
def runTickEvent : TickEvent → State → State
  | .graceEnd o, s => endGrace o s
  | .recoverySpan o, s => reachSpan o s
  | .stall o, s => declareStall o s
  | .reRaise src c, s => reRaiseCause src c s

/-- Take an event of the tick that waits: it leaves the list and is carried out. -/
def takeTickEvent (e : TickEvent) (s : State) : State :=
  if e ∈ s.tickDue then runTickEvent e { s with tickDue := s.tickDue.erase e } else s

/-- Take the declaration of a stall; a recovery span reached at the same tick comes first (R156). -/
def takeStall (o : OutletIx) (s : State) : State :=
  if TickEvent.stall o ∈ s.tickDue then takeTickEvent (.stall o) (takeTickEvent (.recoverySpan o) s) else s

/-- Carry out events in order. -/
def runTickEvents (es : List TickEvent) (s : State) : State := forAll es runTickEvent s

/-- Carry out every event of the tick that still waits: nothing else comes between a tick and what it
declares (R153, R154) (DESIGN CHOICE, log 7). -/
def flushTick (s : State) : State := runTickEvents s.tickDue { s with tickDue := [] }

/-- An event of the tick before a command that creates plans. Where that command creates a plan of the outlet whose
stall is declared, the request finds the plan and is declined with BUSY (R155). The plan's creation report comes after
it, from the command (DESIGN CHOICE, log 7). -/
def runEventBefore (creates : State → OutletIx → Bool) (e : TickEvent) (s : State) : State :=
  match e with
  | .stall o => if creates s o then declareStallBy enterStalled o s else declareStall o s
  | .graceEnd _ | .recoverySpan _ | .reRaise _ _ => runTickEvent e s

/-- Carry out every event of the tick that still waits, before a command that creates plans at the same moment
(R155). -/
def flushBefore (creates : State → OutletIx → Bool) (s : State) : State :=
  forAll s.tickDue (runEventBefore creates) { s with tickDue := [] }

/-- The answer to a command of the host that creates plans. -/
def servedBefore (creates : State → OutletIx → Bool) (f : State → State) (s : State) :
    Host.Outcome State Fault Refusal :=
  if s.resetHeld then .next s else .next (f (flushBefore creates s))

/-- The answer of a part that serves commands: the tick's waiting events first, then the command. While the
reset pin is held the part serves nothing (R185). -/
def served (f : State → State) (s : State) : Host.Outcome State Fault Refusal :=
  if s.resetHeld then .next s else .next (f (flushTick s))

/-- The answer to the own step of an event of the tick. -/
def servedTick (f : State → State) (s : State) : Host.Outcome State Fault Refusal :=
  if s.resetHeld then .next s else .next (f s)

end Sys2Proof.Machine
end

