-- ==== Sys2Proof/Machine/LineOps.lean ====
section
/-! DEFINITION. The Line Tracker's operations: crossings, slots, cycles, tracker states, ticks and window
closes (01_line_timing_and_sampling.md, R1 to R18). -/

namespace Sys2Proof.Machine

/-! ### Crossing records (R14, R15) -/

/-- A rising crossing: the previous sample below 0 and this one 0 or more. -/
def rises (prev this : Int) : Bool := decide (prev < 0) && decide (0 ≤ this)

/-- A falling crossing. -/
def falls (prev this : Int) : Bool := decide (0 ≤ prev) && decide (this < 0)

/-- A phase's voltage crossing records at a complete slot (R14). -/
def updateVoltage (at_ : Crossing) (prev this : Int) (r : PhaseCrossings) : PhaseCrossings :=
  { rising := if rises prev this then some at_ else r.rising
    falling := if falls prev this then some at_ else r.falling }

/-- Every crossing record at a complete slot whose preceding slot was complete (R14, R15). -/
def recordCrossings (at_ : Crossing) (prev v : SampleSet) (l : Line) : Line :=
  { l with
    voltage := Vector.ofFn fun p : Fin 3 =>
      if l.present[p] then updateVoltage at_ (voltageSample prev p) (voltageSample v p) l.voltage[p]
      else l.voltage[p]
    current := Vector.ofFn fun o : Fin 48 =>
      if rises (currentSample prev o) (currentSample v o) then some at_ else l.current[o] }

/-- The crossing records and the comparison samples at a complete slot. -/
def updateCrossings (slot : SlotIx) (v : SampleSet) (l : Line) : Line :=
  let m := match l.prevSamples with
    | some prev => recordCrossings { slot := slot, cycle := l.cycleNo } prev v l
    | none => l
  { m with prevSamples := some v }

/-! ### Converter health (R11) -/

/-- Hand the condition of CONVERTER_STALE to the Notice Unit. -/
def handStale (s : State) : State := setCondition stripSource causeConverterStale s.line.stale s

/-- Hand it at a change of converter health from `was` (R11). -/
def handStaleChange (was : Bool) (s : State) : State := if s.line.stale = was then s else handStale s

/-- A missed slot: the run, and STALE at 16 (R11). -/
def countMissed (l : Line) : Line :=
  { l with
    missedRun := min Config.missedRunMax (l.missedRun + 1)
    stale := l.stale || decide (Config.missedRunMax ≤ l.missedRun + 1)
    prevSamples := none }

/-- The slot in flight has missed (R9): no block receives its samples. -/
def missSlot (s : State) : State :=
  match s.line.inFlight with
  | some _ => handStaleChange s.line.stale ((captureMissed s).updLine fun l => { countMissed l with inFlight := none })
  | none => s

/-- A complete slot's converter health (R11). -/
def countComplete (l : Line) : Line := { l with missedRun := 0, stale := false }

/-- A complete slot is handed to metering, capture, crossing records, sense and verification (R10). -/
def completeInFlight (f : InFlight) (v : SampleSet) (sense : BitVec 48) (s : State) : State :=
  let t := captureComplete v (s.updMeter (accumulate v))
  let u := handStaleChange s.line.stale
    (t.updLine fun l => { countComplete (updateCrossings f.slot v l) with inFlight := none })
  verifyAll f.startAt sense (senseAll sense u)

/-- The 51st sample arrives: the slot in flight is complete; with none in flight the samples are discarded
(R9) (DESIGN CHOICE, log 6). -/
def takeSamples (v : SampleSet) (sense : BitVec 48) (s : State) : State :=
  match s.line.inFlight with
  | some f => completeInFlight f v sense s
  | none => s

/-! ### Slots and cycles (R7, R8) -/

/-- The start of slot k of a cycle, counted from the cycle start (R8). -/
def slotOffset (k period : Nat) : Nat := k * period / 64

/-- A slot starts at a count: a frame opens, a pulse slot comes, the verify count advances, and a running
capture takes it. -/
def openSlot (k : SlotIx) (startAt : Nat) (s : State) : State :=
  let t := mapOps (opSlotStart k startAt) s
  let u := t.updLine fun l =>
    { l with inFlight := some { slot := k, startAt := startAt, captured := false }, nextSlot := k.val + 1 }
  if capturesSlot u then markSlotTaken u else u

/-- The next slot of the cycle starts (R8, R9). -/
def startSlot (k : SlotIx) (s : State) : State :=
  openSlot k (s.line.cycleStart + slotOffset k.val s.line.period) (missSlot s)

/-- The next slot's start has come. -/
def slotIsDue (s : State) : Bool :=
  decide (s.line.nextSlot < 64) && decide (s.line.cycleStart + slotOffset s.line.nextSlot s.line.period ≤ s.now)

/-- A new cycle starts at a count (R7): the slot in flight settles, the rest of the old cycle's slots are
dropped, and slot 0 starts. -/
def startCycle (k : CycleKind) (startAt : Nat) (s : State) : State :=
  let t := (missSlot s).updLine fun l =>
    { l with cycleStart := startAt, cycleNo := l.cycleNo + 1, cycleKind := k, nextSlot := 0 }
  openSlot 0 startAt (captureCycle k (mapOps opCycleStart t))

/-- P counts have passed since the cycle start. -/
def cycleIsOver (s : State) : Bool := decide (s.line.cycleStart + s.line.period ≤ s.now)

/-- The cycle start that follows the running cycle without a break (R7). -/
def followCycle (k : CycleKind) (s : State) : State := startCycle k (s.line.cycleStart + s.line.period) s

/-! ### Presence (R16) -/

/-- A phase's presence at a close. -/
def presenceAt (s : State) (p : PhaseIx) : Bool := decide ((s.pcfg p).presence ≤ (s.pmeter p).vrms)

/-- A phase that passes to not present loses both records (R14). -/
def keepCrossings (was is : Bool) (r : PhaseCrossings) : PhaseCrossings := if was && !is then {} else r

/-- Every phase's presence and its records at a close (R16). -/
def evaluatePresence (s : State) : State :=
  s.updLine fun l =>
    { l with
      present := Vector.ofFn fun p : Fin 3 => presenceAt s p
      voltage := Vector.ofFn fun p : Fin 3 => keepCrossings l.present[p] (presenceAt s p) l.voltage[p] }

/-- PHASE_ABSENT of a phase (R16). -/
def handPresence (p : PhaseIx) (s : State) : State :=
  setCondition (phaseSource p) causePhaseAbsent (!s.line.present[p]) s

/-- LINE_HOLDOVER (R17). -/
def handHoldover (s : State) : State :=
  setCondition stripSource causeLineHoldover (s.line.tracker == .holdover) s

/-! ### Window close (R13) -/

/-- The new window opens (R13). -/
def openWindow (s : State) : State :=
  s.updLine fun l =>
    { l with windowIndex := l.windowIndex + 1, windowOpened := s.now, closePending := none }

/-- The metering window closes (R13, R37): readings, presence and conditions, resolution, retirement, the
Guard, the close's dispatch pass, the watch, and the start of the publication (order: DESIGN CHOICE, log 11). -/
def closeWindow (s : State) : State :=
  let w := s.line.windowIndex
  let t := openWindow (startPublication (takeWindow (finishPublication s)))
  let u := handStale (handHoldover (forAll allPhases handPresence (handLimits (evaluatePresence t))))
  watchClose (dispatchPass (guardClose (retireClosings w (resolveAll allOutlets u))))

/-- A close pending closes now (R13). -/
def closeIfPending (s : State) : State := if s.line.closePending.isSome then closeWindow s else s

/-! ### Tracker states (R2 to R6) -/

/-- A candidate period is in range (R2). -/
def inRange (c : Nat) : Bool := Config.minPeriod ≤ c && c ≤ Config.maxPeriod

/-- The tracker enters HOLDOVER (R4, R5): P and the cycle timing stay, and a pending close closes. The state and the
counters change before that close, whose record shows HOLDOVER and a reject run of 0 (R13, R17; order: DESIGN CHOICE,
log 11). -/
def enterHoldover (s : State) : State :=
  closeIfPending (handHoldover (s.updLine fun l =>
    { l with tracker := .holdover, deadline := none, rejectRun := 0, lockRun := 0 }))

/-- The tracker enters LOCKED at an edge (R3, R6). -/
def enterLocked (c : Nat) (s : State) : State :=
  startCycle .edge s.now (handHoldover (s.updLine fun l =>
    { l with
      tracker := .locked
      period := c
      lockRun := 0
      rejectRun := 0
      prevCandidate := none
      deadline := some (s.now + Config.edgeDeadline) }))

/-- An accepted edge in LOCKED (R4, R13). The new period and the new cycle come before the close (order: DESIGN CHOICE,
log 11). -/
def acceptEdge (c : Nat) (s : State) : State :=
  closeIfPending (startCycle .edge s.now (s.updLine fun l =>
    { l with period := c, deadline := some (s.now + Config.edgeDeadline) }))

/-- A candidate lies within 1/16 of the previous one (R3). -/
def withinSixteenth (c0 c : Nat) : Bool := (c - c0) + (c0 - c) ≤ c0 / 16

/-- The lock run in SEARCHING after an in-range candidate (R3). -/
def searchingRun (l : Line) (c : Nat) : Nat :=
  match l.prevCandidate with
  | none => 1
  | some c0 => if withinSixteenth c0 c then l.lockRun + 1 else 1

/-- An in-range candidate in SEARCHING (R3). -/
def searchingCandidate (c : Nat) (s : State) : State :=
  let run := searchingRun s.line c
  if Config.lockRunLength ≤ run then enterLocked c s
  else s.updLine fun l => { l with lockRun := run, prevCandidate := some c }

/-- An in-range candidate in HOLDOVER (R6). Its run keeps no previous candidate, which R6 does not use
(DESIGN CHOICE, log 23). -/
def holdoverCandidate (c : Nat) (s : State) : State :=
  if Config.lockRunLength ≤ s.line.lockRun + 1 then enterLocked c s
  else s.updLine fun l => { l with lockRun := l.lockRun + 1 }

/-- An in-range candidate, by tracker state (R2 to R6). -/
def acceptCandidate (c : Nat) (s : State) : State :=
  let t := s.updLine fun l => { l with rejectRun := 0 }
  match s.line.tracker with
  | .searching => searchingCandidate c t
  | .locked => acceptEdge c t
  | .holdover => holdoverCandidate c t

/-- A rejected candidate (R2, R4). -/
def rejectCandidate (s : State) : State :=
  let t := s.updLine fun l =>
    { l with rejectRun := min Config.rejectRunMax (l.rejectRun + 1), lockRun := 0, prevCandidate := none }
  if s.line.tracker = .locked ∧ Config.rejectRunLength ≤ t.line.rejectRun then enterHoldover t else t

/-- A candidate period is classified (R2). -/
def takeCandidate (c : Nat) (s : State) : State :=
  if inRange c then acceptCandidate c s else rejectCandidate s

/-- A rising edge of the line-sync input (R1). -/
def takeEdge (s : State) : State :=
  match s.line.edgeRef with
  | none => s.updLine fun l => { l with edgeRef := some s.now }
  | some r =>
    if s.now - r < s.line.period / 4 then s
    else takeCandidate (s.now - r) (s.updLine fun l => { l with edgeRef := some s.now })

/-- The edge deadline has expired in LOCKED (R5). -/
def deadlineExpired (s : State) : Bool :=
  s.line.tracker == .locked &&
    match s.line.deadline with
    | some t => decide (t ≤ s.now)
    | none => false

/-- 182,044 counts have passed in LOCKED with close pending set (R13). -/
def closeTimedOut (s : State) : Bool :=
  match s.line.closePending with
  | some t => decide (t + Config.maxPeriod ≤ s.now)
  | none => false

/-! ### Ticks (R12, R13) -/

/-- The tick has come. -/
def tickIsDue (s : State) : Bool := decide (s.line.nextTick ≤ s.now)

/-- Strip seconds increase (R12). -/
def countSecond (s : State) : State :=
  s.updLine fun l =>
    { l with seconds := l.seconds + 1, nextTick := l.nextTick + Config.countsPerSecond }

/-- The window at a tick: LOCKED sets close pending; SEARCHING and HOLDOVER close at the tick itself, after
what the tick has declared (R13, R154). -/
def tickWindow (s : State) : State :=
  if s.line.tracker = .locked then s.updLine fun l => { l with closePending := some s.now }
  else closeWindow (flushTick s)

/-- A tick of strip seconds (R12): the per-second timers of the Guard, the watch and the Notice Unit, then the
window (DESIGN CHOICE, log 7). -/
def takeTick (s : State) : State := tickWindow (tickNotices (tickWatch (tickGuard (countSecond s))))

end Sys2Proof.Machine
end

