-- ==== Sys2Proof/Machine/LineCommands.lean ====
section
/-! DEFINITION. The commands of the Line Tracker and of the Metering Engine's publication
(01_line_timing_and_sampling.md; 02, R40). A timed event that has not come has no effect (log 2). -/

namespace Sys2Proof.Machine

/-- The answer of every command. -/
abbrev Answered := Host.Outcome State Fault Refusal

/-- LINE_SYNC_EDGE (R1). -/
def execLineSyncEdge (s : State) : Answered := served takeEdge s

/-- EDGE_DEADLINE_EXPIRY (R5). -/
def execEdgeDeadlineExpiry (s : State) : Answered :=
  served (fun t => if deadlineExpired t then enterHoldover t else t) s

/-- A flywheel start has come: LOCKED, and P counts since the cycle start (R7). -/
def flywheelIsDue (s : State) : Bool := s.line.tracker == .locked && cycleIsOver s

/-- A free-run start has come: SEARCHING or HOLDOVER, and P counts since the cycle start (R7). -/
def freeRunIsDue (s : State) : Bool := s.line.tracker != .locked && cycleIsOver s

/-- FLYWHEEL_START (R7). -/
def execFlywheelStart (s : State) : Answered :=
  served (fun t => if flywheelIsDue t then followCycle .flywheel t else t) s

/-- FREE_RUN_START (R7). -/
def execFreeRunStart (s : State) : Answered :=
  served (fun t => if freeRunIsDue t then followCycle .freeRun t else t) s

/-- SLOT_START (R8). -/
def execSlotStart (s : State) : Answered :=
  served (fun t => if slotIsDue t then startSlot (Fin.ofNat 64 t.line.nextSlot) t else t) s

/-- COMPLETE_SLOT (R9, R10). -/
def execCompleteSlot (v : SampleSet) (sense : BitVec 48) (s : State) : Answered := served (takeSamples v sense) s

/-- TICK (R12). -/
def execTick (s : State) : Answered := served (fun t => if tickIsDue t then takeTick t else t) s

/-- CLOSE_PENDING_TIMEOUT (R13). -/
def execClosePendingTimeout (s : State) : Answered :=
  served (fun t => if closeTimedOut t then closeWindow t else t) s

/-- PUBLICATION_COMPLETE (R40). -/
def execPublicationComplete (s : State) : Answered := served finishPublication s

end Sys2Proof.Machine
end

