-- ==== Sys2Proof/Machine/GuardCommands.lean ====
section
/-! DEFINITION. The events of the Branch Guard, the Stall Watch and the Capture Channel
(06_branch_guard.md, 07_stall_watch.md, 08_waveform_capture.md). -/

namespace Sys2Proof.Machine

/-- The pin alone, while the part is held in reset. -/
def movePin (b : BranchIx) (level : Bool) (s : State) : State := s.updBranch b fun g => { g with input := level }

/-- BRANCH_SENSE_CHANGE (R122). The pin moves even while the part is held in reset. -/
def execBranchSenseChange (b : BranchIx) (level : Bool) (s : State) : Answered :=
  if s.resetHeld then .next (movePin b level s) else served (takeInput b level) s

/-- DEBOUNCE_EXPIRY (R123). -/
def execDebounceExpiry (b : BranchIx) (s : State) : Answered := served (debounceIfOver b) s

/-- RETURN_TIMER_EXPIRY (R138). -/
def execReturnTimerExpiry (b : BranchIx) (s : State) : Answered := served (returnIfOver b) s

/-- KICK (R153). -/
def execKick (v : Word) (s : State) : Answered := served (takeKick v) s

/-- GRACE_END (R154). -/
def execGraceEnd (o : OutletIx) (s : State) : Answered := servedTick (takeTickEvent (.graceEnd o)) s

/-- STALL_DECLARATION (R155). -/
def execStallDeclaration (o : OutletIx) (s : State) : Answered := servedTick (takeStall o) s

/-- RECOVERY_SPAN_REACHED (R156). -/
def execRecoverySpanReached (o : OutletIx) (s : State) : Answered := servedTick (takeTickEvent (.recoverySpan o)) s

/-- CAPTURE_START (R167). -/
def execCaptureStart (s : State) : Answered := served captureStart s

/-- CAPTURE_ABORT (R172). -/
def execCaptureAbort (s : State) : Answered := served (stopCapture .aborted) s

/-- CAPTURE_UNKNOWN_COMMAND (R167). -/
def execCaptureUnknownCommand (v : Word) (s : State) : Answered := served (captureCommand v) s

/-- ARM_TIMEOUT (R168). -/
def execArmTimeout (s : State) : Answered :=
  served (fun t => if armTimedOut t then endCapture .aborted .noTrigger t else t) s

end Sys2Proof.Machine
end

