-- ==== Sys2Proof/Machine/RelayCommands.lean ====
section
/-! DEFINITION. The events of an operation in flight and of the Switching Schedule
(03_relay_operations.md, 04_the_switching_schedule.md). -/

namespace Sys2Proof.Machine

/-- Carry out an event on the outlet's operation when the event has come. -/
def onOp (due : State → OutletIx → Bool) (f : OutletIx → Op → State → State) (o : OutletIx) (s : State) : State :=
  match s.op o with
  | some p => if due s o then f o p s else s
  | none => s

/-- A pulse has run its length. -/
def pulseEndIsDue (s : State) (o : OutletIx) : Bool := stageIsOver s o .pulsing

/-- The settle time has run out. -/
def settleEndIsDue (s : State) (o : OutletIx) : Bool := stageIsOver s o .settling

/-- PULSE_START (R55 to R57). -/
def execPulseStart (o : OutletIx) (s : State) : Answered := served (onOp pulseIsDue pulseMoment o) s

/-- PULSE_END (R58). -/
def execPulseEnd (o : OutletIx) (s : State) : Answered := served (onOp pulseEndIsDue pulseOver o) s

/-- SETTLE_END (R59). -/
def execSettleEnd (o : OutletIx) (s : State) : Answered := served (onOp settleEndIsDue settleOver o) s

/-- VERIFY_DEADLINE (R60). -/
def execVerifyDeadline (o : OutletIx) (s : State) : Answered := served (onOp verifyIsOver actOnNoVerdict o) s

/-- The pending hold-off expiry of a scope (R86). -/
def holdOffOf (s : State) : SpacingScope → Option Nat
  | .strip => s.sched.holdOff
  | .branch b => (s.sbranch b).holdOff

/-- The hold-off expiry has come. -/
def holdOffIsDue (s : State) (w : SpacingScope) : Bool :=
  match holdOffOf s w with
  | some t => decide (t ≤ s.now)
  | none => false

/-- No expiry is pending any more. -/
def clearHoldOff (w : SpacingScope) (s : State) : State :=
  match w with
  | .strip => s.updSched fun x => { x with holdOff := none }
  | .branch b => s.updSchedBranch b fun x => { x with holdOff := none }

/-- HOLD_OFF_EXPIRY (R86): deferred closings aim again, and a dispatch pass is made. -/
def execHoldOffExpiry (w : SpacingScope) (s : State) : Answered :=
  served (fun t => if holdOffIsDue t w then dispatchPass (reAimDeferred (clearHoldOff w t)) else t) s

/-- A waiting closing that is not paused has reached its admission deadline (R89). -/
def admissionIsDue (s : State) (o : OutletIx) : Bool :=
  match s.entry o with
  | some e => e.direction == .close && e.pausedSince.isNone && s.msReached e.deadline
  | none => false

/-- ADMISSION_DEADLINE_EXPIRY (R89, R102). -/
def execAdmissionDeadlineExpiry (o : OutletIx) (s : State) : Answered :=
  served (fun t => if admissionIsDue t o then planTimedOut o t else t) s

end Sys2Proof.Machine
end

