-- ==== Sys2Proof/Machine/PlanCommands.lean ====
section
/-! DEFINITION. The host's postings and group postings, and the end of a dwell
(05_outlet_plans_and_action_slots.md). -/

namespace Sys2Proof.Machine

/-- POSTING_ON (R106). -/
def execPostingOn (o : OutletIx) (s : State) : Answered :=
  servedBefore (postCreates o (kindWord .on)) (postKind o .on) s

/-- POSTING_OFF (R106, R110). -/
def execPostingOff (o : OutletIx) (s : State) : Answered :=
  servedBefore (postCreates o (kindWord .off)) (postKind o .off) s

/-- POSTING_CYCLE (R106). -/
def execPostingCycle (o : OutletIx) (s : State) : Answered :=
  servedBefore (postCreates o (kindWord .cycle)) (postKind o .cycle) s

/-- POSTING_CANCEL (R106, R109). -/
def execPostingCancel (o : OutletIx) (s : State) : Answered := served (postCancel o) s

/-- POSTING_UNKNOWN_KIND (R106, R108). -/
def execPostingUnknownKind (o : OutletIx) (v : Word) (s : State) : Answered :=
  servedBefore (postCreates o v) (post o v) s

/-- The dwell of a CYCLE has run out (R99). -/
def dwellIsDue (s : State) (o : OutletIx) : Bool :=
  match s.plan o with
  | some p => p.step == .dwell && decide (p.dwellEnd ≤ s.now)
  | none => false

/-- DWELL_EXPIRY (R99). -/
def execDwellExpiry (o : OutletIx) (s : State) : Answered :=
  served (fun t => if dwellIsDue t o then dwellOver o t else t) s

/-- GROUP_ON (R114). -/
def execGroupOn (s : State) : Answered :=
  servedBefore (groupCreates (kindWord .on)) (groupKind .on) s

/-- GROUP_OFF (R114). -/
def execGroupOff (s : State) : Answered :=
  servedBefore (groupCreates (kindWord .off)) (groupKind .off) s

/-- GROUP_CYCLE (R114). -/
def execGroupCycle (s : State) : Answered :=
  servedBefore (groupCreates (kindWord .cycle)) (groupKind .cycle) s

/-- GROUP_CANCEL (R113, R117). -/
def execGroupCancel (s : State) : Answered := served groupCancelPosting s

/-- GROUP_UNKNOWN_KIND (R113). -/
def execGroupUnknownKind (v : Word) (s : State) : Answered := servedBefore (groupCreates v) (postGroup v) s

end Sys2Proof.Machine
end

