-- ==== Sys2Proof/Machine/ApplyOps.lean ====
section
/-! DEFINITION. The services of exchange memory and the APPLY mechanism: the checks of every setting, the clamp
flags, and what a changed setting starts (09_exchange_memory_and_control_port.md, R179 to R181, with the
settings tables of the owning chapters). -/

namespace Sys2Proof.Machine

/-! ### Service words (R179) -/

/-- A service taken: the count increases and wraps, and the last result takes the service's result. -/
def countService (r : ServiceResult) (x : Service) : Service := { count := x.count + 1, result := r }

/-- The service of a service word has been taken with a result. -/
def tookService (w : ServiceWord) (r : ServiceResult) (s : State) : State :=
  match w with
  | .outlet o => s.updPort fun p => { p with outletService := upd p.outletService o (countService r) }
  | .branch b => s.updPort fun p => { p with branchService := upd p.branchService b (countService r) }
  | .strip => s.updPort fun p => { p with stripService := countService r p.stripService }

/-- CLAMPED when at least one clamp flag is set (R180). -/
def clampResult (flags : Word) : ServiceResult := if flags = 0 then .ok else .clamped

/-! ### Checks (R180) -/

/-- A value outside its range, which its check changes. -/
def outside (lo hi v : Nat) : Bool := decide (v < lo) || decide (hi < v)

/-- A two-word number of a record read by word offset. -/
def twoWords (f : Nat → Word) (off : Nat) : Nat := (f off).toNat + 65536 * (f (off + 2)).toNat

/-- The power-on policy of a code; a code above ON is taken as OFF (R119). -/
def policyOf (v : Nat) : PowerPolicy := if v = 0 then .keep else if v = 1 then .on else .off

/-- The debounce time of a code: 0, 10, 20 or 40 ms; a code above the last is 40 ms (R141). -/
def debounceOf (v : Nat) : Nat := if v = 0 then 0 else if v = 1 then 10 else if v = 2 then 20 else 40

/-- The outlet settings that an APPLY takes from the words of the outlet's record. -/
def checkedOutlet (f : Nat → Word) : OutletSettings :=
  { currentGain := clamp 16384 49151 (f 0x5E).toNat
    currentLimit := clamp 100 32000 (f 0x60).toNat
    expectedLoad := clamp 0 32000 (f 0x62).toNat
    coilPulse := clamp 5 50 (loByte (f 0x64))
    settle := clamp 5 100 (hiByte (f 0x64))
    advance := clamp 0 63 (loByte (f 0x66))
    priority := clamp 0 3 (hiByte (f 0x66))
    offDwell := clamp 1 600 (f 0x68).toNat
    policy := policyOf (loByte (f 0x6A))
    shedRank := clamp 0 15 (hiByte (f 0x6A))
    watchEnable := (f 0x6C).getLsbD 0
    autoRecover := (f 0x6C).getLsbD 1
    releaseFlag := (f 0x6C).getLsbD 2
    locate := (f 0x6C).getLsbD 3
    attemptLimit := clamp 0 7 (hiByte (f 0x6C))
    bootGrace := clamp 0 1800 (f 0x6E).toNat
    quietLimit := clamp 10 3600 (f 0x70).toNat
    activityBand := clamp 1 5000 (f 0x72).toNat
    standbyFloor := clamp 0 5000 (f 0x74).toNat
    recoverySpan := clamp 60 86400 (twoWords f 0x76)
    enable := (f 0x7A).extractLsb' 0 8 }

/-- The clamp flags of that APPLY, bit 0 first. -/
def outletClampFlags (f : Nat → Word) : List Bool :=
  [outside 16384 49151 (f 0x5E).toNat, outside 100 32000 (f 0x60).toNat, outside 0 32000 (f 0x62).toNat,
    outside 5 50 (loByte (f 0x64)), outside 5 100 (hiByte (f 0x64)), outside 0 63 (loByte (f 0x66)),
    outside 0 3 (hiByte (f 0x66)), outside 1 600 (f 0x68).toNat, outside 0 2 (loByte (f 0x6A)),
    outside 0 15 (hiByte (f 0x6A)), outside 0 7 (hiByte (f 0x6C)), outside 0 1800 (f 0x6E).toNat,
    outside 10 3600 (f 0x70).toNat, outside 1 5000 (f 0x72).toNat, outside 0 5000 (f 0x74).toNat,
    outside 60 86400 (twoWords f 0x76)]

/-- The overload percentage that a branch APPLY takes (R141). -/
def checkedOverload (f : Nat → Word) : Nat := clamp 50 150 (hiByte (f 0x2C))

/-- The restore percentage after its own clamp. -/
def clampedRestore (f : Nat → Word) : Nat := clamp 10 100 (loByte (f 0x2E))

/-- The restore percentage that a branch APPLY takes: below the overload percentage (R141). -/
def checkedRestore (f : Nat → Word) : Nat :=
  if clampedRestore f < checkedOverload f then clampedRestore f else checkedOverload f - 1

/-- The branch settings that an APPLY takes from the words of the branch's record. -/
def checkedBranch (f : Nat → Word) : BranchSettings :=
  { currentGain := clamp 16384 49151 (f 0x28).toNat
    rated := clamp 1000 63000 (f 0x2A).toNat
    admission := clamp 10 100 (loByte (f 0x2C))
    overload := checkedOverload f
    restore := checkedRestore f
    persistence := clamp 1 60 (hiByte (f 0x2E))
    shedStep := clamp 1 60 (loByte (f 0x30))
    releasePolicy := decide (hiByte (f 0x30) ≠ 0)
    lowPresent := decide (loByte (f 0x32) ≠ 0)
    debounceMs := debounceOf (hiByte (f 0x32))
    spacing := clamp 0 5000 (f 0x34).toNat
    restoreDelay := clamp 0 3600 (f 0x36).toNat
    returnDelay := clamp 0 600 (f 0x38).toNat
    enable := (f 0x3A).extractLsb' 0 8 }

/-- The clamp flags of that APPLY, bit 0 first. -/
def branchClampFlags (f : Nat → Word) : List Bool :=
  [outside 16384 49151 (f 0x28).toNat, outside 1000 63000 (f 0x2A).toNat, outside 10 100 (loByte (f 0x2C)),
    outside 50 150 (hiByte (f 0x2C)),
    outside 10 100 (loByte (f 0x2E)) || decide (checkedOverload f ≤ clampedRestore f),
    outside 1 60 (hiByte (f 0x2E)), outside 1 60 (loByte (f 0x30)), outside 0 1 (hiByte (f 0x30)),
    outside 0 1 (loByte (f 0x32)), outside 0 3 (hiByte (f 0x32)), outside 0 5000 (f 0x34).toNat,
    outside 0 3600 (f 0x36).toNat, outside 0 600 (f 0x38).toNat]

/-- The strip settings that a strip APPLY takes from the words of the strip block. -/
def checkedStrip (f : Nat → Word) : StripSettings :=
  { creep := clamp 0 500 (f 0x36).toNat
    neutralLimit := clamp 1000 65000 (f 0x38).toNat
    defaultLoad := clamp 100 32000 (f 0x3A).toNat
    spacing := clamp 0 5000 (f 0x3C).toNat
    admissionTimeout := clamp 1 3600 (f 0x3E).toNat
    reRaise := clamp 5 3600 (f 0x40).toNat
    enable := (f 0x42).extractLsb' 0 8 }

/-- The clamp flags of the strip settings, bit 0 first. -/
def stripClampFlags (f : Nat → Word) : List Bool :=
  [outside 0 500 (f 0x36).toNat, outside 1000 65000 (f 0x38).toNat, outside 100 32000 (f 0x3A).toNat,
    outside 0 5000 (f 0x3C).toNat, outside 1 3600 (f 0x3E).toNat, outside 5 3600 (f 0x40).toNat]

/-- The phase settings that a strip APPLY takes from the words of a phase record; the undervoltage threshold
is at most the overvoltage threshold (R44). -/
def checkedPhase (f : Nat → Word) : PhaseSettings :=
  { presence := clamp 2000 20000 (f 0x16).toNat
    voltageGain := clamp 16384 49151 (f 0x18).toNat
    undervoltage := min (f 0x1A).toNat (f 0x1C).toNat
    overvoltage := (f 0x1C).toNat }

/-- The clamp flags of a phase's settings, bit 0 first. -/
def phaseClampFlags (f : Nat → Word) : List Bool :=
  [outside 2000 20000 (f 0x16).toNat, outside 16384 49151 (f 0x18).toNat,
    decide ((f 0x1C).toNat < (f 0x1A).toNat), false]

/-! ### The words of a record as they stand at the write -/

def outletWord (s : State) (o : OutletIx) (off : Nat) : Word := Memory.word s.xm (outletBase o + off)
def branchWord (s : State) (b : BranchIx) (off : Nat) : Word := Memory.word s.xm (branchBase b + off)
def phaseWord (s : State) (p : PhaseIx) (off : Nat) : Word := Memory.word s.xm (phaseBase p + off)
def stripWord (s : State) (off : Nat) : Word := Memory.word s.xm off

/-- The clamp flags of an outlet APPLY made now. -/
def outletFlags (s : State) (o : OutletIx) : Word := natWord (flagWord (outletClampFlags (outletWord s o)))

/-- The clamp flags of a branch APPLY made now. -/
def branchFlags (s : State) (b : BranchIx) : Word := natWord (flagWord (branchClampFlags (branchWord s b)))

/-- The strip clamp flags of a strip APPLY made now. -/
def stripFlags (s : State) : Word := natWord (flagWord (stripClampFlags (stripWord s)))

/-- The phase clamp flags of a strip APPLY made now, four bits for each phase. -/
def phaseFlags (s : State) : Word :=
  natWord (flagWord (allPhases.flatMap fun p => phaseClampFlags (phaseWord s p)))

/-! ### Outlet APPLY -/

/-- The applied copy and the clamp flags of an outlet APPLY. -/
def installOutlet (o : OutletIx) (s : State) : State :=
  (s.updSettings fun c => { c with outlets := upd c.outlets o fun _ => checkedOutlet (outletWord s o) }).updPort
    fun p => { p with outletClamps := upd p.outletClamps o fun _ => outletFlags s o }

/-- The pass of an outlet APPLY that changes the expected load (R92). -/
def outletPass (o : OutletIx) (old : OutletSettings) (s : State) : State :=
  if (s.ocfg o).expectedLoad = old.expectedLoad then s else dispatchPass s

/-- APPLY on an outlet service word (R180): the enable mask, the watch and the pass (DESIGN CHOICE, log 11). -/
def applyOutlet (o : OutletIx) (s : State) : State :=
  let old := s.ocfg o
  tookService (.outlet o) (clampResult (outletFlags s o))
    (outletPass o old (watchApply o (enableChanged (outletSource o) old.enable (installOutlet o s))))

/-! ### Branch APPLY -/

/-- The applied copy and the clamp flags of a branch APPLY. -/
def installBranch (b : BranchIx) (s : State) : State :=
  (s.updSettings fun c => { c with branches := upd c.branches b fun _ => checkedBranch (branchWord s b) }).updPort
    fun p => { p with branchClamps := upd p.branchClamps b fun _ => branchFlags s b }

/-- The Guard's comparisons at a branch APPLY (R142): a corrected sense that changes is debounced, and the
running timers are compared with the new times. Where one APPLY makes both due, the debounced change comes
before the return timer; where one APPLY changes the polarity and the debounce time, the changed sense stops or
starts the debounce timer first, and no timer that ran before is compared with the new time (DESIGN CHOICE,
log 11). -/
def guardApply (b : BranchIx) (old : BranchSettings) (s : State) : State :=
  returnIfOver b
    (if (s.bcfg b).lowPresent = old.lowPresent then debounceIfOver b s else correctedChange b s)

/-- The pending hold-off expiry of a branch moves with its closing spacing (R86). -/
def branchSpacingApply (b : BranchIx) (old : BranchSettings) (s : State) : State :=
  if (s.bcfg b).spacing = old.spacing then s
  else reAimDeferred (s.updSchedBranch b fun x =>
    { x with holdOff := movedHoldOff s.now x.lastStart (s.bcfg b).spacing })

/-- The pass of a branch APPLY that changes the rated current, the admission percentage or the closing
spacing (R92). -/
def branchPass (b : BranchIx) (old : BranchSettings) (s : State) : State :=
  let c := s.bcfg b
  if c.rated = old.rated ∧ c.admission = old.admission ∧ c.spacing = old.spacing then s else dispatchPass s

/-- APPLY on a branch service word (R180): the enable mask, the Guard's comparisons, the moved hold-off expiry and
the pass, in this order (DESIGN CHOICE, log 11). -/
def applyBranch (b : BranchIx) (s : State) : State :=
  let old := s.bcfg b
  tookService (.branch b) (clampResult (branchFlags s b))
    (branchPass b old (branchSpacingApply b old (guardApply b old
      (enableChanged (branchSource b) old.enable (installBranch b s)))))

/-! ### Strip APPLY -/

/-- The applied copies and the clamp flags of a strip APPLY. -/
def installStrip (s : State) : State :=
  (s.updSettings fun c =>
    { c with
      strip := checkedStrip (stripWord s)
      phases := Vector.ofFn fun p : Fin 3 => checkedPhase (phaseWord s p) }).updPort
    fun p => { p with stripClamps := stripFlags s, phaseClamps := phaseFlags s }

/-- The pending strip hold-off expiry moves with the strip closing spacing (R86). -/
def stripSpacingApply (old : StripSettings) (s : State) : State :=
  if s.settings.strip.spacing = old.spacing then s
  else reAimDeferred (s.updSched fun x =>
    { x with holdOff := movedHoldOff s.now x.lastStart s.settings.strip.spacing })

/-- The pass of a strip APPLY that changes the closing spacing or the default expected load (R92). -/
def stripPass (old : StripSettings) (s : State) : State :=
  let c := s.settings.strip
  if c.spacing = old.spacing ∧ c.defaultLoad = old.defaultLoad then s else dispatchPass s

/-- The result of a strip APPLY counts the phase flags with the strip flags (R180). -/
def stripResult (s : State) : ServiceResult := clampResult (stripFlags s ||| phaseFlags s)

/-- APPLY on the strip service word (R180): the enable mask, the moved hold-off expiry and the pass (DESIGN CHOICE,
log 11). -/
def applyStrip (s : State) : State :=
  let old := s.settings.strip
  tookService .strip (stripResult s)
    (stripPass old (stripSpacingApply old (enableChanged stripSource old.enable (installStrip s))))

/-! ### The other services -/

/-- CLEAR_ENERGY (R41). -/
def serviceClearEnergy (o : OutletIx) (s : State) : State := tookService (.outlet o) .ok (clearOutletEnergy o s)

/-- CLEAR_ALL_ENERGY clears outlets 1 to 48 in order (R42). -/
def serviceClearAll (s : State) : State := tookService .strip .ok (forAll allOutlets clearOutletEnergy s)

/-- REARM_WATCH (R160). -/
def serviceRearm (o : OutletIx) (s : State) : State :=
  tookService (.outlet o) .ok (s.updOutletWatch o (rearmed s o))

/-- CLEAR_FAULT (R65). -/
def serviceClearFault (o : OutletIx) (s : State) : State := tookService (.outlet o) .ok (clearFaultPosition o s)

/-- A value that names no service (R179). -/
def serviceUnknown (w : ServiceWord) (s : State) : State := tookService w .badService s

/-- A host write to a service word, by the written value (R179). -/
def takeService (w : ServiceWord) (v : Word) (s : State) : State :=
  match w, v.toNat with
  | .outlet o, 1 => applyOutlet o s
  | .outlet o, 2 => serviceClearEnergy o s
  | .outlet o, 3 => serviceRearm o s
  | .outlet o, 4 => serviceClearFault o s
  | .outlet o, _ => serviceUnknown (.outlet o) s
  | .branch b, 1 => applyBranch b s
  | .branch b, _ => serviceUnknown (.branch b) s
  | .strip, 1 => applyStrip s
  | .strip, 2 => serviceClearAll s
  | .strip, _ => serviceUnknown .strip s

end Sys2Proof.Machine
end

