-- ==== Sys2Proof/Machine/Layout.lean ====
section
/-! DEFINITION. What the host reads: every word of exchange memory by the layouts of R175, the control-port
registers (R182), and the outputs of the indicators (R195). All of it is a view of the state. -/

namespace Sys2Proof.Machine

/-! ### Fields -/

/-- The words of a record by their offsets within it. -/
abbrev Fields := List (Nat × Word)

/-- A two-word field: the less significant word at the lower offset (R175). -/
def dwordAt (off : Nat) (v : Nat) : Fields := [(off, lowWord v), (off + 2, highWord v)]

/-- The word at an offset; a word that the layout does not assign reads 0 (R175). -/
def fieldAt (fs : Fields) (off : Nat) : Word := (fs.lookup off).getD 0

/-- The code of a field that may be absent. -/
def codeOr {α : Type} (f : α → Word) : Option α → Word
  | none => 0
  | some a => f a

/-- The notice word of a source (R186). -/
def noticeWord (s : State) (src : SourceIx) : Word := (s.notice src).taken ++ (s.notice src).pending

/-- The read value of a service word (R179). -/
def serviceRead (x : Service) : Word := x.count ++ (serviceResultWord x.result).extractLsb' 0 8

/-- The common header of a reading record. `flags` are the flag bits above STALE. -/
def headerFields (base : Nat) (h : RecordHeader) (flags : List Bool) : Fields :=
  [(base, h.seq), (base + 2, lowWord h.window.toNat), (base + 4, natWord h.n),
    (base + 6, natWord (flagWord (h.stale :: flags)))]

/-! ### The outlet record -/

/-- The slot status of an outlet (R104). -/
def slotStatus (s : State) (o : OutletIx) : SlotStatus :=
  if (s.plan o).isSome then .active else if (s.slot o).used then .ended else .empty

/-- The reading record of an outlet (R39). -/
def outletReadingFields (r : OutletRecord) : Fields :=
  headerFields 0x00 r.header [r.creep, r.reverse]
    ++ [(0x08, natWord r.irms), (0x0A, natWord r.power), (0x0C, natWord r.apparent), (0x0E, natWord r.factor)]
    ++ dwordAt 0x10 r.wh ++ [(0x14, natWord r.learned)]

/-- The relay status of an outlet (R47). -/
def relayFields (r : RelayOutlet) : Fields :=
  [(0x16, positionWord r.position), (0x18, senseWord r.sense), (0x1A, codeOr (fun p => stageWord p.stage) r.op),
    (0x1C, codeOr directionWord r.status.direction), (0x1E, codeOr originWord r.status.origin),
    (0x20, codeOr attemptWord r.status.attempt), (0x22, codeOr aimWord r.status.aim),
    (0x24, lowWord r.status.startSec.toNat)]

/-- The watch fields of an outlet (R163). -/
def watchFields (w : OutletWatch) : Fields :=
  [(0x26, watchWord w.state), (0x28, resumeWord w.resume), (0x2A, holdWord w.hold), (0x2C, natWord w.grace),
    (0x2E, natWord w.quiet), (0x30, natWord w.attempts)]
    ++ dwordAt 0x32 w.healthy ++ dwordAt 0x36 w.lastKick.toNat

/-- The code of a replaced plan (R104). -/
def replacedWord : Option (Origin × PlanKind) → Word
  | none => 0
  | some (o, k) => bytesWord (originWord o).toNat (kindWord k).toNat

/-- The action slot of an outlet (R104, R88). -/
def slotFields (s : State) (o : OutletIx) : Fields :=
  let x := s.slot o
  [(0x40, statusWord (slotStatus s o)), (0x46, codeOr originWord x.origin), (0x48, x.kind),
    (0x4A, codeOr (fun p => stepWord p.step) (s.plan o)), (0x4C, codeOr (fun e => waitWord e.wait) (s.entry o)),
    (0x4E, resultWord x.result), (0x50, x.tag.zeroExtend 16)]
    ++ dwordAt 0x52 x.endSec.toNat
    ++ [(0x56, replacedWord x.replaced),
      (0x58, bytesWord (resultWord x.refusal).toNat x.refusalTag.toNat)]

/-- Every part-owned and watched word of an outlet's record. -/
def outletFields (s : State) (o : OutletIx) : Fields :=
  outletReadingFields s.records.outlets[o] ++ relayFields s.relay[o] ++ watchFields (s.owatch o)
    ++ [(0x3A, boolWord (s.marks o).shed), (0x3C, boolWord (s.marks o).release),
      (0x3E, noticeWord s (outletSource o))]
    ++ slotFields s o
    ++ [(0x5A, serviceRead s.port.outletService[o]), (0x5C, s.port.outletClamps[o])]

/-! ### The branch record -/

/-- The number of a branch's outlets with a mark (R143). -/
def marksCounted (s : State) (b : BranchIx) (f : Marks → Bool) : Nat :=
  ((outletsOf b).filter fun o => f (s.marks o)).length

/-- Every part-owned and watched word of a branch's record (R39, R143, R93). -/
def branchFields (s : State) (b : BranchIx) : Fields :=
  let r := s.records.branches[b]
  let g := s.gbranch b
  let x := s.sbranch b
  headerFields 0x00 r.header [] ++ dwordAt 0x08 r.irms ++ dwordAt 0x0C r.power
    ++ [(0x10, branchStateWord g.state),
      (0x12, bytesWord (boolWord g.debounced).toNat (boolWord (s.corrected b)).toNat),
      (0x14, natWord g.overloadRun), (0x16, shedPhaseWord g.shedPhase),
      (0x18, codeOr (fun o => natWord (outletNumber o)) g.shedOutlet), (0x1A, natWord g.stepCount),
      (0x1C, natWord (g.restoreHold.getD 0)),
      (0x1E, bytesWord (marksCounted s b Marks.release) (marksCounted s b Marks.shed)),
      (0x20, natWord x.rank.val), (0x22, natWord (outletNumber x.pointer)), (0x24, natWord x.recent.length),
      (0x26, noticeWord s (branchSource b)), (0x3C, serviceRead s.port.branchService[b]),
      (0x3E, s.port.branchClamps[b])]

/-! ### The phase record -/

/-- Every part-owned word of a phase's record (R39, R181). -/
def phaseFields (s : State) (p : PhaseIx) : Fields :=
  let r := s.records.phases[p]
  let c := s.pcfg p
  headerFields 0x00 r.header [] ++ [(0x08, natWord r.vrms)] ++ dwordAt 0x0A r.irms ++ dwordAt 0x0E r.power
    ++ [(0x12, boolWord r.present), (0x14, noticeWord s (phaseSource p)), (0x1E, natWord c.presence),
      (0x20, natWord c.voltageGain), (0x22, natWord c.undervoltage), (0x24, natWord c.overvoltage)]

/-! ### The strip block -/

/-- The identity constants. -/
def identityFields : Fields := [(0x00, Config.deviceCode), (0x02, 1), (0x04, 48), (0x06, 6), (0x08, 3)]

/-- The strip reading record (R39). -/
def stripReadingFields (r : StripRecord) : Fields :=
  headerFields 0x0A r.header [] ++ dwordAt 0x12 r.neutral ++ dwordAt 0x16 r.totalPower ++ dwordAt 0x1A r.duration
    ++ dwordAt 0x1E r.seconds.toNat ++ [(0x22, trackerWord r.tracker)] ++ dwordAt 0x24 r.period
    ++ [(0x28, natWord r.frequency), (0x2A, natWord r.rejectRun)]

/-- The published applied copy of the strip settings (R181). -/
def stripAppliedFields (c : StripSettings) : Fields :=
  [(0x44, natWord c.creep), (0x46, natWord c.neutralLimit), (0x48, natWord c.defaultLoad),
    (0x4A, natWord c.spacing), (0x4C, natWord c.admissionTimeout), (0x4E, natWord c.reRaise),
    (0x50, c.enable.zeroExtend 16)]

/-- The strip slot (R113). -/
def groupFields (g : Group) : Fields :=
  [(0x5A, statusWord g.status), (0x64, g.kind), (0x66, resultWord g.result), (0x68, natWord g.requested),
    (0x6A, natWord g.taken), (0x6C, natWord g.busy), (0x6E, natWord g.refused), (0x70, natWord g.done),
    (0x72, natWord g.failed), (0x74, natWord g.cancelled)]
    ++ dwordAt 0x76 g.endSec.toNat ++ [(0x7A, resultWord g.refusal)]

/-- The part-owned fields of the capture control block (R166 to R173). -/
def captureFields (c : Capture) : Fields :=
  let r := c.request
  [(0x86, captureStateWord c.state), (0x88, captureSourceWord r.source), (0x8A, natWord r.index),
    (0x8C, natWord r.cycles), (0x8E, captureTriggerWord r.trigger), (0x90, natWord r.armTimeout),
    (0x92, r.clamps.zeroExtend 16), (0x94, natWord c.fill), (0x96, natWord c.missed),
    (0x98, boolWord c.holdover), (0x9A, endReasonWord c.endReason), (0x9C, resultWord c.refusal)]

/-- Every part-owned and watched word of the strip block. -/
def stripFields (s : State) : Fields :=
  identityFields ++ stripReadingFields s.records.strip
    ++ [(0x2E, natWord (entriesWaiting s)), (0x30, natWord (reservationsHeld s)),
      (0x32, natWord s.sched.retry.length), (0x34, noticeWord s stripSource)]
    ++ stripAppliedFields s.settings.strip
    ++ [(0x52, serviceRead s.port.stripService), (0x54, s.port.stripClamps), (0x56, s.port.phaseClamps),
      (0x58, s.watch.kickWord)]
    ++ groupFields s.plans.group ++ captureFields s.capture

/-! ### Reads -/

/-- The part's word at a byte offset (R175). -/
def partWord (s : State) (off : Nat) : Word :=
  if off < 0x100 then fieldAt (stripFields s) off
  else if h : off < 0x1C0 then fieldAt (phaseFields s ⟨(off - 0x100) / 64, by omega⟩) ((off - 0x100) % 64)
  else if off < 0x200 then 0
  else if h : off < 0x380 then fieldAt (branchFields s ⟨(off - 0x200) / 64, by omega⟩) ((off - 0x200) % 64)
  else if off < 0x400 then 0
  else if h : off < 0x1C00 then fieldAt (outletFields s ⟨(off - 0x400) / 128, by omega⟩) ((off - 0x400) % 128)
  else 0

/-- The word of exchange memory that a host read of an even byte offset returns (R175, R176, R178); 0 while
the reset pin is held (R185) (DESIGN CHOICE, log 4). -/
def readXm (s : State) (off : Nat) : Word :=
  if s.resetHeld then 0
  else if hostOwned off ∨ Config.captureBase ≤ off then Memory.word s.xm off
  else partWord s off

/-- The STATUS register (R182). -/
def readStatus (s : State) : Word :=
  natWord ((if s.port.running then 1 else 0) + 2 * (trackerWord s.line.tracker).toNat
    + (if s.line.stale then 8 else 0) + 16 * candidateCount s)

/-- The CONTROL register (R182). -/
def readControl (s : State) : Word := natWord ((if s.port.running then 1 else 0) + 4 * modeBits s.port.mode)

/-- A control-port register other than POLL, whose read takes a notice (R182, R189). -/
def readRegister (s : State) (r : BitVec 2) : Word :=
  if s.resetHeld then 0
  else if r = 0 then Config.deviceCode
  else if r = 1 then readControl s
  else if r = 2 then readStatus s
  else s.port.pollValue

/-! ### Indicators (R195) -/

/-- The patterns of the LEDs. -/
inductive Pattern where
  | locate | fault | stall | plan | steady | off
deriving DecidableEq, Repr

/-- The pattern of an outlet LED: the first row of the table whose condition holds. -/
def outletPattern (s : State) (o : OutletIx) : Pattern :=
  if (s.ocfg o).locate then .locate
  else if isFault (s.position o) then .fault
  else if (s.owatch o).state = .stalled ∨ (s.owatch o).state = .givenUp then .stall
  else if (s.plan o).isSome then .plan
  else if isClosed (s.position o) then .steady
  else .off

/-- The pattern of a branch LED by its branch state. -/
def branchPattern (s : State) (b : BranchIx) : Pattern :=
  match (s.gbranch b).state with
  | .live => .steady
  | .overload | .shedding => .plan
  | .returning => .stall
  | .dead => .off

/-- The place of each flashing pattern in its span at a strip millisecond. -/
def flashAt (ms : BitVec 32) : FlashPhases :=
  { locate := decide (ms.toNat % 250 < 125)
    fault := decide (ms.toNat % 2000 < 250)
    stall := decide (ms.toNat % 2000 < 500)
    plan := decide (ms.toNat % 1000 < 500) }

/-- A pattern is in its on part. -/
def patternOn (f : FlashPhases) : Pattern → Bool
  | .locate => f.locate
  | .fault => f.fault
  | .stall => f.stall
  | .plan => f.plan
  | .steady => true
  | .off => false

/-- The LED output of an outlet: high when set. -/
def outletLed (s : State) (o : OutletIx) : Bool := !s.resetHeld && patternOn s.notices.flash (outletPattern s o)

/-- The LED output of a branch: high when set. -/
def branchLed (s : State) (b : BranchIx) : Bool := !s.resetHeld && patternOn s.notices.flash (branchPattern s b)

/-- A flashing pattern's on part starts or ends now. -/
def flashIsDue (s : State) : Bool := s.notices.flash != flashAt s.ms

/-- Every LED showing a flashing pattern follows its span. -/
def takeFlash (s : State) : State := s.updNotices fun x => { x with flash := flashAt s.ms }

end Sys2Proof.Machine
end

