-- ==== Sys2Proof/WellFormed.lean ====
section
/-! DEFINITION. Which commands are rows of the table as the table describes them. Index operands are
bounded by their types; what is left to check is that a written value names what its row says, and that a
plain host write does not select a watched word. -/

namespace Sys2Proof

/-- The byte offset of a word of exchange memory. -/
def xmOffset (w : BitVec 13) : Nat := 2 * w.toNat

/-- The watched words of exchange memory (R178). -/
inductive Watched where
  | command (o : OutletIx)
  | outletService (o : OutletIx)
  | branchService (b : BranchIx)
  | stripService
  | stripCommand
  | kickWord
  | captureCommand
deriving DecidableEq, Repr

/-- The watched word at a byte offset, by the layouts of the exchange-memory chapter. -/
def watchedAt (off : Nat) : Option Watched :=
  if off = 0x52 then some .stripService
  else if off = 0x58 then some .kickWord
  else if off = 0x5A then some .stripCommand
  else if off = 0x86 then some .captureCommand
  else if h : 0x200 ≤ off ∧ off < 0x380 then
    if off % 64 = 0x3C then some (.branchService ⟨(off - 0x200) / 64, by omega⟩) else none
  else if h : 0x400 ≤ off ∧ off < 0x1C00 then
    if off % 128 = 0x40 then some (.command ⟨(off - 0x400) / 128, by omega⟩)
    else if off % 128 = 0x5A then some (.outletService ⟨(off - 0x400) / 128, by omega⟩)
    else none
  else none

/-- The values that name a posting kind or a group kind are 1 to 4 (R105, R113). -/
def namesKind (v : Word) : Bool := 1 ≤ v.toNat && v.toNat ≤ 4

/-- The values that name a capture command are 1 and 2 (R167). -/
def namesCapture (v : Word) : Bool := v.toNat == 1 || v.toNat == 2

/-- The values that name a service of a service word (R179). -/
def namesService : ServiceWord → Word → Bool
  | .outlet _, v => 1 ≤ v.toNat && v.toNat ≤ 4
  | .branch _, v => v.toNat == 1
  | .strip, v => v.toNat == 1 || v.toNat == 2

/-- The RUN bit of a CONTROL write (R182). -/
def controlRun (v : Word) : Bool := v.getLsbD 0

/-- The WARM bit of a CONTROL write (R182). -/
def controlWarm (v : Word) : Bool := v.getLsbD 1

/-- A write of a host address is a plain one when it selects no watched word and no CONTROL write with WARM (R178,
R182). -/
def plainWrite : HostAddr → Word → Bool
  | .xm w, _ => (watchedAt (xmOffset w)).isNone
  | .control r, v => r ≠ 1 || !controlWarm v

/-- A command is well formed when its operands are those its row of the table describes. -/
def WellFormed : Instr → Bool
  | .postingUnknownKind _ v => !namesKind v
  | .groupUnknownKind v => !namesKind v
  | .captureUnknownCommand v => !namesCapture v
  | .unknownService w v => !namesService w v
  | .runSet v => controlRun v && !controlWarm v
  | .runClear v => !controlRun v && !controlWarm v
  | .warmReset v => controlWarm v
  | .attentionMode v => !controlWarm v
  | .hostWrite a v => plainWrite a v
  | .powerOnReset _ | .lineSyncEdge | .edgeDeadlineExpiry | .flywheelStart | .freeRunStart => true
  | .slotStart | .completeSlot _ _ | .tick | .closePendingTimeout => true
  | .pulseStart _ | .pulseEnd _ | .settleEnd _ | .verifyDeadline _ => true
  | .holdOffExpiry _ | .admissionDeadlineExpiry _ => true
  | .postingOn _ | .postingOff _ | .postingCycle _ | .postingCancel _ | .dwellExpiry _ => true
  | .groupOn | .groupOff | .groupCycle | .groupCancel => true
  | .branchSenseChange _ _ | .debounceExpiry _ | .returnTimerExpiry _ => true
  | .kick _ | .graceEnd _ | .stallDeclaration _ | .recoverySpanReached _ => true
  | .captureStart | .captureAbort | .armTimeout => true
  | .outletApply _ | .branchApply _ | .stripApply => true
  | .clearEnergy _ | .clearAllEnergy | .rearmWatch _ | .clearFault _ => true
  | .pollRead | .reRaise _ _ | .attentionPulseEnd => true
  | .flashingPatternTransition | .publicationComplete => true

end Sys2Proof
end

