-- ==== Sys2Proof/Machine/PortOps.lean ====
section
/-! DEFINITION. The control port: the run state, warm reset, power-on reset, and the routing of a host write
(09_exchange_memory_and_control_port.md, R176, R178, R182 to R185). -/

namespace Sys2Proof.Machine

/-! ### The run state (R183) -/

/-- STOPPED to RUNNING: deadlines resume, the power-on policy is applied at the first such change, and a
dispatch pass is made (R90, R118). The policy plans join first, each with its pass, and the pass of RUNNING comes
last (DESIGN CHOICE, log 11). -/
def startRunning (s : State) : State :=
  dispatchPass (applyPolicy (repause (s.updPort fun p => { p with running := true })))

/-- RUNNING to STOPPED: every entry waits as STOPPED, every deadline pauses, and first-attempt closings in
AIMING are withdrawn (R90, R56). -/
def stopRunning (s : State) : State :=
  forAll allOutlets withdrawIfBarred (repause (stopWaits (s.updPort fun p => { p with running := false })))

/-- The RUN bit of a CONTROL write (R183). -/
def takeRun (run : Bool) (s : State) : State :=
  match s.port.running, run with
  | false, true => startRunning s
  | true, false => stopRunning s
  | true, true => s
  | false, false => s

/-! ### Warm reset (R184) -/

/-- The schedule at a warm reset (R95): every entry leaves, and the retry queue and the closing in aim empty. -/
def warmSched (x : Sched) : Sched :=
  { x with entries := Vector.replicate 48 none, retry := [], inAim := none }

/-- The relays at a warm reset (R68). -/
def warmRelays (s : State) : State := { s with relay := mapAll warmRelay s.relay }

/-- The release requests that the plan ends of a warm reset leave to make (R137, R146). -/
def warmReleases (ended : List OutletIx) (s : State) : State := forAll ended releaseAtEnd s

/-- The blocks' part of a warm reset before the plans end: the Notice Unit empties its sets, the run state
clears, the schedule and the operations in flight follow. -/
def warmClear (s : State) : State :=
  warmRelays ((emptyNotices s).updPort (fun p => { p with running := false }) |>.updSched warmSched)

/-- The plans and the group end RESET (R121). -/
def warmPlans (s : State) : State := warmGroup (forAll allOutlets warmEndPlan s)

/-- A warm reset (R184) (order: DESIGN CHOICE, log 15). -/
def warmReset (s : State) : State :=
  let ended := allOutlets.filter (endsAtWarm s)
  dispatchPass (stopCapture .reset (warmReleases ended (watchWarm (guardWarm (warmPlans (warmClear s))))))

/-! ### CONTROL (R182) -/

/-- A host write to CONTROL: a warm reset, or the attention mode and the RUN bit (order: DESIGN CHOICE, log 17). -/
def controlWrite (v : Word) (s : State) : State :=
  if controlWarm v then warmReset s else takeRun (controlRun v) (setMode (modeOfWord v) s)

/-- A value written to CONTROL creates a plan of an outlet: the first RUNNING applies the power-on policy (R118). -/
def controlCreates (v : Word) (s : State) (x : OutletIx) : Bool :=
  !controlWarm v && controlRun v && !s.port.running && policyCreates s x

/-! ### Power-on reset (R185) -/

/-- A branch's guard at the release: the debounce timer starts when the input is present (R144). -/
def releasedBranch (g : GuardBranch) : GuardBranch :=
  { input := g.input, debounceFrom := if g.input then some 0 else none }

/-- The part while the reset pin is held: every block is in its reset state and nothing is served
(DESIGN CHOICE, log 3). -/
def heldReset (s : State) : State :=
  { State.reset with
    resetHeld := true
    guard := { State.reset.guard with branches := mapAll (fun g => { input := g.input }) s.guard.branches }
    pending := s.pending }

/-- The part at the release of power-on reset. -/
def releasedReset (s : State) : State :=
  { State.reset with
    guard := { State.reset.guard with branches := mapAll releasedBranch s.guard.branches }
    pending := s.pending }

/-! ### Host writes (R176, R178) -/

/-- A host write to a watched word is an event at its owner (R178) (DESIGN CHOICE, log 17). -/
def watchedWrite (w : Watched) (v : Word) (s : State) : State :=
  match w with
  | .command o => post o v s
  | .outletService o => takeService (.outlet o) v s
  | .branchService b => takeService (.branch b) v s
  | .stripService => takeService .strip v s
  | .stripCommand => postGroup v s
  | .kickWord => takeKick v s
  | .captureCommand => captureCommand v s

/-- A host write to a word that is not watched: stored in a host-owned field, dropped elsewhere (R176). -/
def storeWord (off : Nat) (v : Word) (s : State) : State :=
  if hostOwned off then { s with xm := Memory.setWord s.xm off v } else s

/-- A host write to a word of exchange memory. -/
def xmWrite (off : Nat) (v : Word) (s : State) : State :=
  match watchedAt off with
  | some w => watchedWrite w v s
  | none => storeWord off v s

/-- A host write to one word, by the address it selects. -/
def takeHostWrite (a : HostAddr) (v : Word) (s : State) : State :=
  match a with
  | .xm w => xmWrite (xmOffset w) v s
  | .control r => if r = 1 then controlWrite v s else s

/-- A host write creates a plan of an outlet. -/
def hostCreates (a : HostAddr) (v : Word) (s : State) (x : OutletIx) : Bool :=
  match a with
  | .control r => decide (r = 1) && controlCreates v s x
  | .xm w =>
    match watchedAt (xmOffset w) with
    | some (.command o) => postCreates o v s x
    | some .stripCommand => groupCreates v s x
    | some (.outletService _) | some (.branchService _) | some .stripService | some .kickWord | some .captureCommand
    | none => false

end Sys2Proof.Machine
end

