-- ==== Sys2Proof/Machine/PortCommands.lean ====
section
/-! DEFINITION. The services, CONTROL, the Notice Unit's events, the reset pin and the plain host write
(09_exchange_memory_and_control_port.md, 10_notices_attention_line_and_indicators.md). -/

namespace Sys2Proof.Machine

/-- OUTLET_APPLY (R180). -/
def execOutletApply (o : OutletIx) (s : State) : Answered := served (applyOutlet o) s

/-- BRANCH_APPLY (R180). -/
def execBranchApply (b : BranchIx) (s : State) : Answered := served (applyBranch b) s

/-- STRIP_APPLY (R180). -/
def execStripApply (s : State) : Answered := served applyStrip s

/-- CLEAR_ENERGY (R41). -/
def execClearEnergy (o : OutletIx) (s : State) : Answered := served (serviceClearEnergy o) s

/-- CLEAR_ALL_ENERGY (R42). -/
def execClearAllEnergy (s : State) : Answered := served serviceClearAll s

/-- REARM_WATCH (R160). -/
def execRearmWatch (o : OutletIx) (s : State) : Answered := served (serviceRearm o) s

/-- CLEAR_FAULT (R65). -/
def execClearFault (o : OutletIx) (s : State) : Answered := served (serviceClearFault o) s

/-- UNKNOWN_SERVICE (R179). -/
def execUnknownService (w : ServiceWord) (v : Word) (s : State) : Answered := served (takeService w v) s

/-- RUN_SET (R183): the CONTROL write that the value is. -/
def execRunSet (v : Word) (s : State) : Answered := servedBefore (controlCreates v) (controlWrite v) s

/-- RUN_CLEAR (R183): the CONTROL write that the value is. -/
def execRunClear (v : Word) (s : State) : Answered := servedBefore (controlCreates v) (controlWrite v) s

/-- WARM_RESET (R184): the CONTROL write that the value is. -/
def execWarmReset (v : Word) (s : State) : Answered := servedBefore (controlCreates v) (controlWrite v) s

/-- ATTENTION_MODE (R192): the CONTROL write that the value is. -/
def execAttentionMode (v : Word) (s : State) : Answered := servedBefore (controlCreates v) (controlWrite v) s

/-- POLL_READ (R189). A read while the reset pin is held returns 0 (R185). -/
def execPollRead (s : State) : Answered :=
  if s.resetHeld then .next (s.updPort fun p => { p with pollValue := 0 }) else served pollTake s

/-- RE_RAISE (R190). -/
def execReRaise (src : SourceIx) (c : CauseBit) (s : State) : Answered := servedTick (takeTickEvent (.reRaise src c)) s

/-- The attention pulse has run out (R192). -/
def pulseHasEnded (s : State) : Bool :=
  match s.notices.pulseUntil with
  | some t => decide (t ≤ s.now)
  | none => false

/-- ATTENTION_PULSE_END (R192). -/
def execAttentionPulseEnd (s : State) : Answered :=
  served (fun t => if pulseHasEnded t then t.updNotices fun x => { x with pulseUntil := none } else t) s

/-- HOST_WRITE (R176). -/
def execHostWrite (a : HostAddr) (v : Word) (s : State) : Answered :=
  servedBefore (hostCreates a v) (takeHostWrite a v) s

/-- FLASHING_PATTERN_TRANSITION (R195). -/
def execFlashingPatternTransition (s : State) : Answered := served takeFlash s

/-- POWER_ON_RESET (R185): the pin is held, or the part is released. -/
def execPowerOnReset (held : Bool) (s : State) : Answered := .next (if held then heldReset s else releasedReset s)

end Sys2Proof.Machine
end

