-- ==== Sys2Proof/Machine/Dispatch.lean ====
section
/-! DEFINITION. The meaning of every command: one arm for each row of the table. -/

namespace Sys2Proof.Machine

def exec (i : Instr) (s : State) : Host.Outcome State Fault Refusal :=
  match i with
  | .powerOnReset held => Sys2Proof.Machine.execPowerOnReset held s
  | .lineSyncEdge => Sys2Proof.Machine.execLineSyncEdge s
  | .edgeDeadlineExpiry => Sys2Proof.Machine.execEdgeDeadlineExpiry s
  | .flywheelStart => Sys2Proof.Machine.execFlywheelStart s
  | .freeRunStart => Sys2Proof.Machine.execFreeRunStart s
  | .slotStart => Sys2Proof.Machine.execSlotStart s
  | .completeSlot samples sense => Sys2Proof.Machine.execCompleteSlot samples sense s
  | .tick => Sys2Proof.Machine.execTick s
  | .closePendingTimeout => Sys2Proof.Machine.execClosePendingTimeout s
  | .pulseStart o => Sys2Proof.Machine.execPulseStart o s
  | .pulseEnd o => Sys2Proof.Machine.execPulseEnd o s
  | .settleEnd o => Sys2Proof.Machine.execSettleEnd o s
  | .verifyDeadline o => Sys2Proof.Machine.execVerifyDeadline o s
  | .holdOffExpiry scope => Sys2Proof.Machine.execHoldOffExpiry scope s
  | .admissionDeadlineExpiry o => Sys2Proof.Machine.execAdmissionDeadlineExpiry o s
  | .postingOn o => Sys2Proof.Machine.execPostingOn o s
  | .postingOff o => Sys2Proof.Machine.execPostingOff o s
  | .postingCycle o => Sys2Proof.Machine.execPostingCycle o s
  | .postingCancel o => Sys2Proof.Machine.execPostingCancel o s
  | .postingUnknownKind o value => Sys2Proof.Machine.execPostingUnknownKind o value s
  | .dwellExpiry o => Sys2Proof.Machine.execDwellExpiry o s
  | .groupOn => Sys2Proof.Machine.execGroupOn s
  | .groupOff => Sys2Proof.Machine.execGroupOff s
  | .groupCycle => Sys2Proof.Machine.execGroupCycle s
  | .groupCancel => Sys2Proof.Machine.execGroupCancel s
  | .groupUnknownKind value => Sys2Proof.Machine.execGroupUnknownKind value s
  | .branchSenseChange b level => Sys2Proof.Machine.execBranchSenseChange b level s
  | .debounceExpiry b => Sys2Proof.Machine.execDebounceExpiry b s
  | .returnTimerExpiry b => Sys2Proof.Machine.execReturnTimerExpiry b s
  | .kick value => Sys2Proof.Machine.execKick value s
  | .graceEnd o => Sys2Proof.Machine.execGraceEnd o s
  | .stallDeclaration o => Sys2Proof.Machine.execStallDeclaration o s
  | .recoverySpanReached o => Sys2Proof.Machine.execRecoverySpanReached o s
  | .captureStart => Sys2Proof.Machine.execCaptureStart s
  | .captureAbort => Sys2Proof.Machine.execCaptureAbort s
  | .captureUnknownCommand value => Sys2Proof.Machine.execCaptureUnknownCommand value s
  | .armTimeout => Sys2Proof.Machine.execArmTimeout s
  | .outletApply o => Sys2Proof.Machine.execOutletApply o s
  | .branchApply b => Sys2Proof.Machine.execBranchApply b s
  | .stripApply => Sys2Proof.Machine.execStripApply s
  | .clearEnergy o => Sys2Proof.Machine.execClearEnergy o s
  | .clearAllEnergy => Sys2Proof.Machine.execClearAllEnergy s
  | .rearmWatch o => Sys2Proof.Machine.execRearmWatch o s
  | .clearFault o => Sys2Proof.Machine.execClearFault o s
  | .unknownService word value => Sys2Proof.Machine.execUnknownService word value s
  | .runSet value => Sys2Proof.Machine.execRunSet value s
  | .runClear value => Sys2Proof.Machine.execRunClear value s
  | .warmReset value => Sys2Proof.Machine.execWarmReset value s
  | .attentionMode value => Sys2Proof.Machine.execAttentionMode value s
  | .pollRead => Sys2Proof.Machine.execPollRead s
  | .reRaise source bit => Sys2Proof.Machine.execReRaise source bit s
  | .attentionPulseEnd => Sys2Proof.Machine.execAttentionPulseEnd s
  | .hostWrite addr value => Sys2Proof.Machine.execHostWrite addr value s
  | .flashingPatternTransition => Sys2Proof.Machine.execFlashingPatternTransition s
  | .publicationComplete => Sys2Proof.Machine.execPublicationComplete s

end Sys2Proof.Machine
end

