-- ==== Sys2Proof/Machine/Clock.lean ====
section
/-! DEFINITION. The reference clock: the timed events that have come, in the order in which the model takes
them (00_scope.md, "Time"; the order is a DESIGN CHOICE, log 1). -/

namespace Sys2Proof.Machine

/-- The command that an event of the tick is. -/
def tickCommand : TickEvent → Instr
  | .graceEnd o => .graceEnd o
  | .recoverySpan o => .recoverySpanReached o
  | .stall o => .stallDeclaration o
  | .reRaise src c => .reRaise src c

/-- A command when its event has come. -/
def whenDue (due : Bool) (i : Instr) : List Instr := if due then [i] else []

/-- The publication in progress has closed its last record, or has reached its limit (R40). -/
def publicationIsDue (s : State) : Bool :=
  match s.records.finishBy with
  | some t => decide (Config.publicationHalves ≤ s.records.turn) || decide (t ≤ s.now)
  | none => false

/-- The Line Tracker's events that have come. -/
def lineDue (s : State) : List Instr :=
  whenDue (tickIsDue s) .tick ++ whenDue (deadlineExpired s) .edgeDeadlineExpiry
    ++ whenDue (flywheelIsDue s) .flywheelStart ++ whenDue (freeRunIsDue s) .freeRunStart
    ++ whenDue (slotIsDue s) .slotStart ++ whenDue (closeTimedOut s) .closePendingTimeout

/-- The events of one outlet that have come. -/
def outletDue (s : State) (o : OutletIx) : List Instr :=
  whenDue (pulseEndIsDue s o) (.pulseEnd o) ++ whenDue (settleEndIsDue s o) (.settleEnd o)
    ++ whenDue (verifyIsOver s o) (.verifyDeadline o) ++ whenDue (pulseIsDue s o) (.pulseStart o)
    ++ whenDue (admissionIsDue s o) (.admissionDeadlineExpiry o) ++ whenDue (dwellIsDue s o) (.dwellExpiry o)

/-- The events of one branch that have come. -/
def branchDue (s : State) (b : BranchIx) : List Instr :=
  whenDue (holdOffIsDue s (.branch b)) (.holdOffExpiry (.branch b))
    ++ whenDue (debounceIsOver s b) (.debounceExpiry b) ++ whenDue (returnIsOver s b) (.returnTimerExpiry b)

/-- The remaining events of the strip that have come. -/
def stripDue (s : State) : List Instr :=
  whenDue (holdOffIsDue s .strip) (.holdOffExpiry .strip) ++ whenDue (armTimedOut s) .armTimeout
    ++ whenDue (pulseHasEnded s) .attentionPulseEnd ++ whenDue (flashIsDue s) .flashingPatternTransition
    ++ whenDue (publicationIsDue s) .publicationComplete

/-- Every event that has come: what the last tick declared, then the line, the outlets and branches in order,
and the strip. -/
def dueCommands (s : State) : List Instr :=
  s.tickDue.map tickCommand ++ lineDue s ++ allOutlets.flatMap (outletDue s) ++ allBranches.flatMap (branchDue s)
    ++ stripDue s

/-- One count of the reference clock passes, in which a publication in progress makes its next half-bracket
(DESIGN CHOICE, log 5). -/
def countOne (s : State) : State := publishNext { s with now := s.now + 1 }

/-- What the part does with no command waiting: the first event that has come, or else one count passes. A
part held in reset does nothing. -/
def idle (s : State) : Host.Outcome State Fault Refusal :=
  if s.resetHeld then .next s
  else match dueCommands s with
  | i :: _ => exec i s
  | [] => .next (countOne s)

end Sys2Proof.Machine
end

