-- ==== Sys2Proof/Safety.lean ====
section
/-! DEFINITION. The terms in which claims are stated: frames by block of the state, a part that is ready to
serve, the invariants of the machine, and a safe run. -/

namespace Sys2Proof.Machine

/-! ### Frames -/

/-- The blocks of the state, one for each field of State. -/
inductive Block where
  | now | resetHeld | line | meter | records | relay | sched | plans | guard
  | watch | capture | notices | port | settings | xm | tickDue | pending
deriving DecidableEq, Repr

/-- Nothing changes from `s` to `t` outside the blocks of `m`. -/
structure Only (m : List Block) (s t : State) : Prop where
  now : Block.now ∉ m → t.now = s.now
  resetHeld : Block.resetHeld ∉ m → t.resetHeld = s.resetHeld
  line : Block.line ∉ m → t.line = s.line
  meter : Block.meter ∉ m → t.meter = s.meter
  records : Block.records ∉ m → t.records = s.records
  relay : Block.relay ∉ m → t.relay = s.relay
  sched : Block.sched ∉ m → t.sched = s.sched
  plans : Block.plans ∉ m → t.plans = s.plans
  guard : Block.guard ∉ m → t.guard = s.guard
  watch : Block.watch ∉ m → t.watch = s.watch
  capture : Block.capture ∉ m → t.capture = s.capture
  notices : Block.notices ∉ m → t.notices = s.notices
  port : Block.port ∉ m → t.port = s.port
  settings : Block.settings ∉ m → t.settings = s.settings
  xm : Block.xm ∉ m → t.xm = s.xm
  tickDue : Block.tickDue ∉ m → t.tickDue = s.tickDue
  pending : Block.pending ∉ m → t.pending = s.pending

/-! ### A part that serves -/

/-- The part is out of reset, and nothing that a tick declared still waits for its own step. -/
abbrev Ready (s : State) : Prop := s.resetHeld = false ∧ s.tickDue = []

/-- Two states differ at most in one outlet's entry of a table. -/
def SameElse {α : Type} (o : OutletIx) (v w : Vector α 48) : Prop := ∀ x : OutletIx, x ≠ o → w[x] = v[x]

/-- Two states differ at most in one branch's entry of a table. -/
def SameElseBranch {α : Type} (b : BranchIx) (v w : Vector α 6) : Prop := ∀ x : BranchIx, x ≠ b → w[x] = v[x]

/-! ### Causes -/

/-- A cause is pending at its source. -/
abbrev Pends (s : State) (src : SourceIx) (c : CauseBit) : Prop := (s.notice src).pending.getLsbD c.val = true

/-- The condition record of a level cause reads held. -/
abbrev Holds (s : State) (src : SourceIx) (c : CauseBit) : Prop := (s.notice src).held.getLsbD c.val = true

/-- A block has handed a level cause's condition over (R188): the record reads it; a condition that begins to hold
makes its cause pending; one that ends takes its cause out of both sets and stops its timer. -/
def ConditionFollows (src : SourceIx) (c : CauseBit) (holds : Prop) (s t : State) : Prop :=
  (Holds t src c ↔ holds)
    ∧ (¬ Holds s src c → holds → Pends t src c)
    ∧ (Holds s src c → ¬ holds →
      ¬ Pends t src c ∧ (t.notice src).taken.getLsbD c.val = false ∧ (t.notice src).timers[c] = 0)

/-- It has been handed over once: a record that already reads the condition leaves its cause as it is (R188). -/
def ConditionHanded (src : SourceIx) (c : CauseBit) (holds : Prop) (s t : State) : Prop :=
  ConditionFollows src c holds s t
    ∧ ((Holds s src c ↔ holds) → (Pends t src c ↔ Pends s src c)
      ∧ (t.notice src).taken.getLsbD c.val = (s.notice src).taken.getLsbD c.val
      ∧ (t.notice src).timers[c] = (s.notice src).timers[c])

/-- The attention pulse after an event that has made a cause pending at its source: in PULSE mode an enabled cause
that was not pending drives the line low for 17 counts, and nothing else touches the pulse (R187, R191, R192). -/
def PulseFollows (src : SourceIx) (c : CauseBit) (s t : State) : Prop :=
  (s.port.mode = .pulse → causeEnabled s src c = true → ¬ Pends s src c →
      t.notices.pulseUntil = some (s.now + 17) ∧ attentionLine t = false)
    ∧ ((s.port.mode ≠ .pulse ∨ causeEnabled s src c = false ∨ Pends s src c) →
      t.notices.pulseUntil = s.notices.pulseUntil)

/-! ### Line events -/

/-- An edge now is timed and yields a candidate period of `c` counts (R1). -/
def TimedEdge (s : State) (c : Nat) : Prop :=
  ∃ r, s.line.edgeRef = some r ∧ s.line.period / 4 ≤ s.now - r ∧ c = s.now - r

/-- The converter health after a slot start that finds a slot in flight, which has then missed (R9, R11). -/
def MissedInFlight (s t : State) : Prop :=
  (s.line.inFlight = none → t.line.missedRun = s.line.missedRun ∧ t.line.stale = s.line.stale)
    ∧ (s.line.inFlight ≠ none → t.line.missedRun = min 16 (s.line.missedRun + 1)
      ∧ t.line.stale = (s.line.stale || decide (16 ≤ s.line.missedRun + 1)))

/-- A cycle of a kind starts at a count with its slot 0 (R7, R8). -/
def CycleStarts (k : CycleKind) (startAt : Nat) (s t : State) : Prop :=
  t.line.cycleStart = startAt ∧ t.line.cycleNo = s.line.cycleNo + 1 ∧ t.line.cycleKind = k
    ∧ t.line.nextSlot = 1 ∧ (∃ f, t.line.inFlight = some f ∧ f.slot = 0 ∧ f.startAt = startAt)
    ∧ MissedInFlight s t

/-- The command closes a metering window (R13): the limit of a pending close; a tick outside LOCKED; or, in LOCKED with
a close pending, an accepted edge, the eighth rejected one, or the edge deadline. -/
def ClosesWindow (c : Instr) (s : State) : Prop :=
  (c = .closePendingTimeout ∧ ∃ d, s.line.closePending = some d ∧ d + 182044 ≤ s.now)
    ∨ (c = .tick ∧ s.line.tracker ≠ .locked ∧ s.line.nextTick ≤ s.now)
    ∨ (s.line.tracker = .locked ∧ s.line.closePending ≠ none
      ∧ ((c = .edgeDeadlineExpiry ∧ ∃ d, s.line.deadline = some d ∧ d ≤ s.now)
        ∨ (c = .lineSyncEdge ∧ ∃ p, TimedEdge s p ∧ (126031 ≤ p ∧ p ≤ 182044 ∨ 8 ≤ s.line.rejectRun + 1))))

/-- The state after a tick's second and counts, with what they make due (R12, R134, R154, R190). -/
def ticked (s : State) : State := tickNotices (tickWatch (tickGuard (countSecond s)))

/-- The state that a closing command's close finds: for an edge or the edge deadline what the command makes with no
close pending; at a tick the state after its counts and what they made due; and the state as it is for the limit. -/
def beforeClose (c : Instr) (s : State) : State :=
  let s' := { s with line := { s.line with closePending := none } }
  match c with
  | .tick => flushTick (ticked s)
  | .lineSyncEdge | .edgeDeadlineExpiry => match exec c s' with | .next u => u | .fault _ | .refused _ => s
  | _ => s

/-! ### Reading records -/

/-- The record header of the last close under a sequence word (R39). -/
def closeRecord (s : State) (seq : BitVec 16) : RecordHeader :=
  { seq := seq, window := s.meter.lastClose.window, n := s.meter.lastClose.n, stale := s.meter.lastClose.stale }

/-- An outlet's readings as its record holds them (R39). -/
def outletReadings (s : State) (o : OutletIx) (seq : BitVec 16) : OutletRecord :=
  { header := closeRecord s seq
    irms := (s.ometer o).irms
    power := (s.ometer o).power
    apparent := (s.ometer o).apparent
    factor := (s.ometer o).factor
    creep := (s.ometer o).creep
    reverse := (s.ometer o).reverse
    wh := (s.ometer o).wh
    learned := (s.ometer o).learned }

/-- A branch's readings as its record holds them (R39). -/
def branchReadings (s : State) (b : BranchIx) (seq : BitVec 16) : BranchRecord :=
  { header := closeRecord s seq, irms := (s.bmeter b).irms, power := (s.bmeter b).power }

/-- A phase's readings as its record holds them (R39). -/
def phaseReadings (s : State) (p : PhaseIx) (seq : BitVec 16) : PhaseRecord :=
  { header := closeRecord s seq
    vrms := (s.pmeter p).vrms
    irms := (s.pmeter p).irms
    power := (s.pmeter p).power
    present := s.line.present[p] }

/-- The strip's readings as its record holds them (R39). -/
def stripReadings (s : State) (seq : BitVec 16) : StripRecord :=
  { header := closeRecord s seq
    neutral := s.meter.neutral
    totalPower := s.meter.totalPower
    duration := s.meter.lastClose.duration
    seconds := s.meter.lastClose.seconds
    tracker := s.meter.lastClose.tracker
    period := s.meter.lastClose.period
    frequency := s.meter.lastClose.frequency
    rejectRun := s.meter.lastClose.rejectRun }

/-- Of the half-brackets `a` to `b - 1` of a publication, those of the record at place `k`: half 2k opens it, half
2k + 1 closes it, and each counts its sequence word once (R40; log 5). -/
def bumps (a b k : Nat) : Nat :=
  (if a ≤ 2 * k ∧ 2 * k < b then 1 else 0) + (if a ≤ 2 * k + 1 ∧ 2 * k + 1 < b then 1 else 0)

/-- The deferred writes of an outlet's record. -/
def deferredOf (ws : List DeferredWrite) (o : OutletIx) : Nat :=
  (ws.filter fun w => w == .learnedLoad o || w == .energyClear o).length

/-- The half-brackets `a` to `b - 1` have been made on all 58 records in source order, and then the deferred writes
`ws`, each under a bracket of its own: the half that closes a record writes the readings into it (R39, R40; log 5). -/
def RecordsPublished (a b : Nat) (ws : List DeferredWrite) (s t : State) : Prop :=
  (t.records.strip =
      let seq := s.records.strip.header.seq + BitVec.ofNat 16 (bumps a b 0)
      if a ≤ 1 ∧ 1 < b then stripReadings s seq
      else { s.records.strip with header := { s.records.strip.header with seq := seq } })
    ∧ (∀ p : PhaseIx, t.records.phases[p] =
      let k := 1 + p.val
      let old := s.records.phases[p]
      let seq := old.header.seq + BitVec.ofNat 16 (bumps a b k)
      if a ≤ 2 * k + 1 ∧ 2 * k + 1 < b then phaseReadings s p seq
      else { old with header := { old.header with seq := seq } })
    ∧ (∀ i : BranchIx, t.records.branches[i] =
      let k := 4 + i.val
      let old := s.records.branches[i]
      let seq := old.header.seq + BitVec.ofNat 16 (bumps a b k)
      if a ≤ 2 * k + 1 ∧ 2 * k + 1 < b then branchReadings s i seq
      else { old with header := { old.header with seq := seq } })
    ∧ ∀ o : OutletIx, t.records.outlets[o] =
      let k := 10 + o.val
      let old := s.records.outlets[o]
      let seq := old.header.seq + BitVec.ofNat 16 (bumps a b k + 2 * deferredOf ws o)
      if a ≤ 2 * k + 1 ∧ 2 * k + 1 < b then outletReadings s o seq
      else { old with
        header := { old.header with seq := seq }
        learned := if DeferredWrite.learnedLoad o ∈ ws then (s.ometer o).learned else old.learned
        wh := if DeferredWrite.energyClear o ∈ ws then (s.ometer o).wh else old.wh }

/-- The publication in progress has opened the bracket of an outlet's record and not yet closed it (R40). -/
abbrev BracketOpen (s : State) (o : OutletIx) : Prop :=
  s.records.finishBy ≠ none ∧ s.records.turn = 2 * (10 + o.val) + 1

/-! ### Dispatch -/

/-- The pulse of an operation whose AIMING begins in `s` is due at once (R55, R118), and that of a POLICY OFF opening
on a branch in RETURNING (R145; its first attempt alone: DEDUCED, log 22). A RELEASE opening is no case of its own: off
a DEAD branch it aims as any other (DESIGN CHOICE, log 24). -/
abbrev PulsedAtOnce (s : State) (o : OutletIx) (q : Op) : Prop :=
  s.line.tracker = .searching ∨ s.branchStateOf o = .dead
    ∨ (s.branchStateOf o = .returning ∧ q.origin = .policy ∧ q.direction = .open ∧ q.attempt = .first)

/-- A crossing record is current (R14). -/
abbrev Current (s : State) (c : Crossing) : Prop := c.cycle = s.line.cycleNo ∨ c.cycle = s.line.cycleNo - 1

/-- Of two current crossings, `c` is not later than `d` (R53). -/
abbrev NotLater (s : State) (c d : Crossing) : Prop :=
  (c.cycle = d.cycle → c.slot ≤ d.slot) ∧ (c.cycle ≠ d.cycle → d.cycle = s.line.cycleNo)

/-- The operation aims half a cycle after the later of its phase's current voltage crossings, and is IMMEDIATE without
one (R53). -/
def AimsAtVoltage (s : State) (o : OutletIx) (q : Op) : Prop :=
  let v := s.line.voltage[phaseOf o]
  (∀ c, v.rising = some c → Current s c → (∀ d, v.falling = some d → Current s d → NotLater s d c) →
      q.aim = .voltage ∧ q.target = some (c.slot + 32))
    ∧ (∀ c, v.falling = some c → Current s c → (∀ d, v.rising = some d → Current s d → NotLater s d c) →
      q.aim = .voltage ∧ q.target = some (c.slot + 32))
    ∧ ((∀ c, v.rising = some c → ¬ Current s c) → (∀ c, v.falling = some c → ¬ Current s c) →
      q.aim = .immediate ∧ q.target = none)

/-- The three conditions under which an opening aims at a current crossing, but for the record itself (R54). -/
abbrev AimsAtCurrent (s : State) (o : OutletIx) (q : Op) : Prop :=
  q.direction = .open ∧ (s.ometer o).irms ≠ 0 ∧ (s.ometer o).creep = false

/-- AIMING of the operation `q` has begun in `s` (R53 to R55, R145). -/
def Aims (s : State) (o : OutletIx) (q : Op) : Prop :=
  let r := s.line.current[o]
  q.stage = .aiming ∧ q.deferred = false ∧ q.cyclesSeen = 0 ∧ (q.pulseDue = true ↔ q.aim = .immediate)
    ∧ (PulsedAtOnce s o q → q.aim = .immediate ∧ q.target = none)
    ∧ (¬ PulsedAtOnce s o q →
      (∀ c, r = some c → Current s c → AimsAtCurrent s o q →
        q.aim = .current ∧ q.target = some (c.slot + 32))
      ∧ ((∀ c, r = some c → Current s c → ¬ AimsAtCurrent s o q) → AimsAtVoltage s o q))

/-- The outlet's entry has been dispatched: its context captures the applied settings and the entry's fields, aims, and
publishes its status; an opening sets the learned load (R38, R40, R50, R72, R77). -/
def Dispatched (o : OutletIx) (d : Direction) (origin : Origin) (enteredAt : BitVec 32) (s t : State) : Prop :=
  t.entry o = none
    ∧ (∃ q, t.op o = some q ∧ Aims s o q ∧ q.direction = d ∧ q.origin = origin ∧ q.attempt = .first
      ∧ q.enteredAt = enteredAt ∧ q.pulseMs = (s.ocfg o).coilPulse ∧ q.settleMs = (s.ocfg o).settle
      ∧ q.advance = (s.ocfg o).advance ∧ q.startSec = s.line.seconds ∧ q.dispatchPosition = s.position o
      ∧ q.abandoned = false
      ∧ t.relay[o].status = { direction := some d, origin := some origin, attempt := some .first, aim := some q.aim
                              startSec := s.line.seconds })
    ∧ (d = .open → (t.ometer o).learned = (s.ometer o).irms
      ∧ (¬ BracketOpen s o → t.records.outlets[o].learned = (s.ometer o).irms))

/-- The outlets whose openings wait. -/
def openingsWaiting (s : State) : List OutletIx :=
  allOutlets.filter fun x => (s.entry x).any fun f => f.direction == .open

/-- Those whose openings go before an opening of the outlet that joined at a time: they have waited longer, or as long
with a lower outlet number (R77). -/
def openingsBefore (s : State) (o : OutletIx) (enteredAt : BitVec 32) : List OutletIx :=
  allOutlets.filter fun x => (s.entry x).any fun f => f.direction == .open
    && (decide ((s.ms - enteredAt).toNat < (s.ms - f.enteredAt).toNat)
      || (f.enteredAt == enteredAt && decide (x < o)))

/-- A closing of the outlet passes its branch's state, spacing and admission (R79, R81, R86). -/
abbrev MayBeChosen (s : State) (o : OutletIx) : Prop :=
  s.isLive (branchOf o) = true ∧ branchSpacingPassed s (branchOf o) = true
    ∧ (s.bmeter (branchOf o)).irms + ((s.sbranch (branchOf o)).recent.map RecentClosing.load).sum + expectedLoad s o
      ≤ (s.bcfg (branchOf o)).rated * (s.bcfg (branchOf o)).admission / 100

/-- The outlet's place in its branch's rotation, 0 just after the pointer (R80). -/
def rotationPlace (s : State) (o : OutletIx) : Nat := (o.val + 63 - (s.sbranch (branchOf o)).pointer.val) % 8

/-- The closing `e` of an outlet goes before every other one that may be chosen: by class, on its branch by the
rotation, between branches by the higher strip rank (R79, R80, R83). -/
def WinsPass (s : State) (o : OutletIx) (e : Entry) : Prop :=
  MayBeChosen s o ∧ ∀ x f, s.entry x = some f → x ≠ o → f.direction = .close → MayBeChosen s x →
    e.klass < f.klass ∨ (e.klass = f.klass
      ∧ (if branchOf x = branchOf o then rotationPlace s o < rotationPlace s x
        else (s.sbranch (branchOf x)).rank < (s.sbranch (branchOf o)).rank))

/-- What a dispatch pass leaves behind in `t` (R73, R75 to R77, R79, R86, R88): with a reservation free no retry waits,
and while RUNNING no opening and no closing that may be chosen; every entry left carries its wait reason. -/
def PassLeft (t : State) : Prop :=
  (∀ o e, t.entry o = some e →
    (t.port.running = false → e.wait = .stopped)
    ∧ (t.port.running = true → e.direction = .open → e.wait = .coil)
    ∧ (t.port.running = true → e.direction = .close →
      (t.branchStateOf o = .dead → e.wait = .branchDead)
      ∧ (t.branchStateOf o ≠ .dead → t.branchStateOf o ≠ .live → e.wait = .load)
      ∧ (t.branchStateOf o = .live → (e.wait = .coil ∧ 4 ≤ reservationsHeld t)
        ∨ e.wait = if t.sched.inAim ≠ none ∨ stripSpacingPassed t = false
            ∨ branchSpacingPassed t (branchOf o) = false then .spacing
          else if MayBeChosen t o then .spacing else .load)))
  ∧ (reservationsHeld t < 4 → t.sched.retry = []
    ∧ (t.port.running = true → ∀ o e, t.entry o = some e → e.direction = .close
      ∧ (t.sched.inAim = none → stripSpacingPassed t = true → ¬ MayBeChosen t o)))

/-- The outlet's entry has been dispatched for its plan: its operation is in AIMING, first attempt (R50, R72). -/
def Granted (o : OutletIx) (d : Direction) (origin : Origin) (enteredAt : BitVec 32) (t : State) : Prop :=
  ∃ p q, t.plan o = some p ∧ p.step = operationStep d ∧ t.entry o = none ∧ t.op o = some q
    ∧ q.direction = d ∧ q.origin = origin ∧ q.attempt = .first ∧ q.stage = .aiming ∧ q.enteredAt = enteredAt

/-! ### Admission deadlines -/

/-- The deadlines of an outlet's closing are paused: the strip is STOPPED, or the outlet's branch is DEAD (R89). -/
abbrev Pauses (s : State) (o : OutletIx) : Prop := s.port.running = false ∨ s.branchStateOf o = .dead

/-- The admission deadline of a closing that joins in `s`: the later of its entered-at time plus the admission timeout
and the moment of the join plus a second (R89). The later is found by the entry's age, the difference of the
milliseconds modulo 2 to the 32: DESIGN CHOICE, log 10. -/
def deadlineAtJoin (s : State) (enteredAt : BitVec 32) : BitVec 32 :=
  let timeout := s.settings.strip.admissionTimeout * 1000
  if (s.ms - enteredAt).toNat + 1000 ≤ timeout then enteredAt + BitVec.ofNat 32 timeout else s.ms + 1000

/-- The closing `e` of an outlet has joined: its class, and its admission deadline, paused or not (R71, R89). -/
def ClosingJoined (o : OutletIx) (e : Entry) (t : State) : Prop :=
  e.klass = (t.ocfg o).priority ∧ e.deadline = deadlineAtJoin t e.enteredAt
    ∧ e.pausedSince = if Pauses t o then some t.ms else none

/-- A closing whose deadline pauses, or stays paused (R89). -/
def pausedEntry (s : State) (e : Entry) : Entry := { e with pausedSince := some (e.pausedSince.getD s.ms) }

/-- A closing whose deadline resumes, later by the time that it was paused, or goes on (R89). -/
def resumedEntry (s : State) (e : Entry) : Entry :=
  match e.pausedSince with
  | some d => { e with pausedSince := none, deadline := e.deadline + (s.ms - d) }
  | none => e

/-! ### Plans -/

/-- An outlet's plan has ended with a result written into its slot (R103). -/
def PlanEnds (o : OutletIx) (r : ResultCode) (s t : State) : Prop :=
  t.plan o = none ∧ t.entry o = none ∧ (t.slot o).used = true ∧ (t.slot o).result = r
    ∧ (t.slot o).endSec = s.line.seconds ∧ Pends t (outletSource o) causeOpDone

/-- An outlet's plan waits in a queued step with its entry, a closing with its admission deadline, or a pass has already
dispatched it (R71, R89, R97). -/
def Queued (o : OutletIx) (d : Direction) (origin : Origin) (enteredAt : BitVec 32) (t : State) : Prop :=
  (∃ p e, t.plan o = some p ∧ p.step = queuedStep d ∧ t.op o = none ∧ t.entry o = some e ∧ e.direction = d
      ∧ e.origin = origin ∧ e.enteredAt = enteredAt ∧ (d = .close → ClosingJoined o e t))
    ∨ Granted o d origin enteredAt t

/-- The outlet is one that the Branch Guard releases when it has no plan: closed, with its release flag, on a DEAD
branch with loss policy RELEASE (R137). -/
abbrev Releases (s : State) (o : OutletIx) : Prop :=
  s.branchStateOf o = .dead ∧ (s.bcfg (branchOf o)).releasePolicy = true ∧ (s.ocfg o).releaseFlag = true
    ∧ (s.position o = .closed ∨ s.position o = .closedUnverified)

/-- The outlet has been released: its release mark is set, and its RELEASE OFF plan waits or has been dispatched, its
pulse due at once (R55, R104, R111, R137). -/
def Released (o : OutletIx) (s t : State) : Prop :=
  (t.marks o).release = true ∧ slotStatus t o = .active ∧ (t.slot o).origin = some .release ∧ (t.slot o).kind = 2
    ∧ (t.slot o).result = .none ∧ (t.slot o).tag = 0 ∧ Queued o .open .release s.ms t
    ∧ (∃ p, t.plan o = some p ∧ p.kind = .off ∧ p.origin = .release ∧ p.tag = 0 ∧ p.dwell = (s.ocfg o).offDwell
      ∧ p.heldCancel = false ∧ p.waiting = false ∧ p.groupMember = false)
    ∧ ∀ q, t.op o = some q → q.aim = .immediate ∧ q.pulseDue = true

/-- An outlet's plan has ended, and the Branch Guard has released the outlet if it is one that it releases: the slot is
then the RELEASE plan's (R103, R137). -/
def PlanOver (o : OutletIx) (r : ResultCode) (s t : State) : Prop :=
  (¬ Releases t o → PlanEnds o r s t)
    ∧ (Releases t o → Released o s t ∧ (t.slot o).endSec = s.line.seconds ∧ Pends t (outletSource o) causeOpDone)

/-- The outlet's operation and its plan are over. -/
def OpPlanOver (o : OutletIx) (r : ResultCode) (s t : State) : Prop :=
  PlanOver o r s t ∧ (¬ Releases t o → t.op o = none)

/-- The result that an operation's result ends its plan with (R98). -/
def endResult : OpResult → ResultCode
  | .done => .done
  | .notVerified => .notVerified
  | .failedToClose => .failedToClose
  | .failedToOpen => .failedToOpen
  | .reset => .reset

/-- A superseding OFF that waited for an operation has looked at the position (R110). -/
def LooksAt (o : OutletIx) (pos : Position) (pl : Plan) (s t : State) : Prop :=
  ((pos = .open ∨ pos = .openUnverified) → t.op o = none ∧ PlanEnds o .doneNoChange s t)
    ∧ (pos = .faultStuckClosed → t.op o = none ∧ PlanEnds o .failedToOpen s t)
    ∧ ((pos = .closed ∨ pos = .closedUnverified ∨ pos = .unknown ∨ pos = .faultStuckOpen) → o ∉ s.sched.retry →
      Queued o .open pl.origin s.ms t)

/-- The outlet's operation has ended with a result other than RESET and a position, and its plan `pl` has taken that
end (R64): a held cancel ends the plan (R109); a waiting OFF looks at the position (R110); a CYCLE's opening dwells
(R99); any other end gives the plan its result (R98), and a CYCLE whose opening was not verified ends NOT_VERIFIED. -/
def OperationEnds (o : OutletIx) (r : OpResult) (pos : Position) (pl : Plan) (s t : State) : Prop :=
  t.position o = pos
    ∧ (pl.heldCancel = true → OpPlanOver o .cancelled s t)
    ∧ (pl.heldCancel = false → pl.waiting = true → LooksAt o pos pl s t)
    ∧ (pl.heldCancel = false → pl.waiting = false →
      (pl.kind = .cycle → pl.step = .opening → (r = .done ∨ r = .notVerified) → t.op o = none
        ∧ t.plan o = some { pl with
          step := .dwell, dwellEnd := s.now + pl.dwell * 8192000
          openingUnverified := pl.openingUnverified || decide (r = .notVerified) })
      ∧ (pl.kind = .cycle → pl.step = .closing → r = .done →
        OpPlanOver o (if pl.openingUnverified then .notVerified else .done) s t)
      ∧ ((pl.kind ≠ .cycle ∨ r = .failedToOpen ∨ r = .failedToClose ∨ (pl.step = .closing ∧ r = .notVerified)) →
        OpPlanOver o (endResult r) s t))

/-- The first closing `p` in AIMING has been withdrawn, and its plan `pl` has taken it back: it is queued again with
its age and a deadline at least a second ahead, ends CANCELLED with a held cancel, or as a waiting OFF looks at the
position (R56, R89, R100, R109, R110). -/
def ClosingWithdrawn (o : OutletIx) (p : Op) (pl : Plan) (s t : State) : Prop :=
  t.position o = s.position o ∧ t.sched.inAim ≠ some o
    ∧ (pl.heldCancel = true → OpPlanOver o .cancelled s t)
    ∧ (pl.heldCancel = false → pl.waiting = true → LooksAt o (s.position o) pl s t)
    ∧ (pl.heldCancel = false → pl.waiting = false → t.op o = none ∧ t.plan o = some { pl with step := .queuedClose }
      ∧ ∃ e, t.entry o = some e ∧ e.direction = .close ∧ e.origin = pl.origin ∧ e.enteredAt = p.enteredAt
        ∧ ClosingJoined o e t)

/-- A member plan's end has reached the ACTIVE group record: the counts grow, and the group ends GROUP_DONE when every
taken member has ended (R115, R116). -/
def GroupCounts (done failed cancelled : Nat) (s t : State) : Prop :=
  let g := { s.plans.group with
    done := s.plans.group.done + done, failed := s.plans.group.failed + failed
    cancelled := s.plans.group.cancelled + cancelled }
  (g.taken = g.done + g.failed + g.cancelled →
    t.plans.group = { g with status := .ended, result := .groupDone, endSec := s.line.seconds }
      ∧ Pends t stripSource causeGroupDone)
    ∧ (g.taken ≠ g.done + g.failed + g.cancelled → t.plans.group = g)

/-- A member's refused posting has been written into its slot (R107, R114). -/
def MemberRefused (k : PlanKind) (code : ResultCode) (o : OutletIx) (s t : State) : Prop :=
  t.plan o = none ∧ t.marks o = s.marks o ∧ slotStatus t o = .ended ∧ Pends t (outletSource o) causeOpRefused
    ∧ t.slot o = { used := true, origin := some .group, kind := kindWord k, result := code, tag := 0
                   endSec := s.line.seconds, replaced := none, refusal := code, refusalTag := 0 }

/-- A member's posting has been taken into a queued step (R97, R99, R106, R112, R114). -/
def MemberQueued (k : PlanKind) (d : Direction) (o : OutletIx) (s t : State) : Prop :=
  (∃ p, t.plan o = some p ∧ p.kind = k ∧ p.origin = .group ∧ p.tag = 0 ∧ p.groupMember = true
      ∧ p.heldCancel = false ∧ p.waiting = false ∧ p.replaced = none
      ∧ p.dwell = if Memory.word s.xm 0x62 = 0 then (s.ocfg o).offDwell else min 600 (Memory.word s.xm 0x62).toNat)
    ∧ Queued o d .group s.ms t ∧ t.marks o = { shed := false, release := false } ∧ slotStatus t o = .active
    ∧ (t.slot o).origin = some .group ∧ (t.slot o).kind = kindWord k ∧ (t.slot o).result = .none
    ∧ (t.slot o).tag = 0 ∧ (t.slot o).replaced = none

/-- A member's posting has been taken and has ended at once, DONE_NO_CHANGE (R106, R112, R114); the Branch Guard may
then have released the outlet (R137). -/
def MemberEnded (k : PlanKind) (o : OutletIx) (s t : State) : Prop :=
  PlanOver o .doneNoChange s t ∧ (t.marks o).shed = false
    ∧ (¬ Releases s o → (t.marks o).release = false ∧ (t.slot o).origin = some .group
      ∧ (t.slot o).kind = kindWord k ∧ (t.slot o).tag = 0 ∧ (t.slot o).replaced = none)

/-- What a member of a group posting without a plan has received, by its position (R106, R114). -/
def MemberJudged (k : PlanKind) (o : OutletIx) (s t : State) : Prop :=
  let pos := s.position o
  let closed := pos = .closed ∨ pos = .closedUnverified
  let isOpen := pos = .open ∨ pos = .openUnverified
  ((pos = .faultStuckClosed ∨ (pos = .faultStuckOpen ∧ k ≠ .off)) → MemberRefused k .fault o s t)
    ∧ (k = .cycle → (isOpen ∨ pos = .unknown) → MemberRefused k .notOn o s t)
    ∧ (((k = .on ∧ closed) ∨ (k = .off ∧ isOpen)) → (s.op o = none ∨ ¬ Releases s o) → MemberEnded k o s t)
    ∧ (s.op o = none → o ∉ s.sched.retry →
      (k = .on → (isOpen ∨ pos = .unknown) → MemberQueued k .close o s t)
      ∧ (k = .off → (closed ∨ pos = .unknown ∨ pos = .faultStuckOpen) → MemberQueued k .open o s t)
      ∧ (k = .cycle → closed → MemberQueued k .open o s t))

/-- The outlet's queued member plan ends, counted as done, when a resolution finds its position (R49, R101, R115). -/
def endsResolved (s : State) (o : OutletIx) : Bool :=
  (s.op o).isNone && (s.position o == .unknown || s.position o == .openUnverified || s.position o == .closedUnverified)
    && (s.plan o).any fun p => p.groupMember
      && ((s.relay[o].sense == .present && p.step == .queuedClose && (p.kind == .on || p.kind == .cycle))
        || (s.relay[o].sense == .absent && p.step == .queuedOpen && (p.kind == .off || p.kind == .cycle)))

/-! ### Branch states -/

/-- What a change of the branch from LIVE, or to DEAD, does to the operation `p` of one of its outlets and its plan
`pl` (R67): a first closing in AIMING is withdrawn, its entry waiting for the reason given, VERIFYING ends
NOT_VERIFIED, and the other stages go on. -/
def OperationOffLive (o : OutletIx) (wait : WaitReason) (p : Op) (pl : Plan) (s t : State) : Prop :=
  (p.stage = .aiming → p.direction = .close → p.attempt = .first → ClosingWithdrawn o p pl s t
      ∧ ∀ e, t.entry o = some e → e.direction = .close → e.wait = wait)
    ∧ (p.stage = .verifying → OperationEnds o .notVerified (unverified p.direction) pl s t)
    ∧ ((p.stage = .pulsing ∨ p.stage = .settling ∨ p.stage = .retryWait) →
      t.op o = some p ∧ t.plan o = some pl ∧ t.position o = s.position o)

/-- What an entry of the branch into DEAD does to its outlets: the operations in flight (R67), with the pulse of an
opening or of a second attempt in AIMING due at once, the closings that wait (R89, R91), and the release sweep of an
outlet without a plan (R136, R137). -/
def EntersDead (b : BranchIx) (s t : State) : Prop :=
  let wait : WaitReason := if s.port.running then .branchDead else .stopped
  ∀ o, branchOf o = b →
    (s.plan o = none → s.entry o = none → s.op o = none →
      t.position o = s.position o ∧ (Releases t o → Released o s t)
        ∧ (¬ Releases t o → t.plan o = none ∧ t.entry o = none ∧ t.op o = none ∧ t.marks o = s.marks o
          ∧ t.slot o = s.slot o))
    ∧ (∀ e, s.entry o = some e → e.direction = .close → s.op o = none → s.plan o ≠ none →
      t.entry o = some { e with wait := wait, pausedSince := some (e.pausedSince.getD s.ms) })
    ∧ ∀ p pl, s.op o = some p → s.plan o = some pl → s.entry o = none → o ∉ s.sched.retry →
      OperationOffLive o wait p pl s t
        ∧ (p.stage = .aiming → (p.direction = .open ∨ p.attempt = .second) →
          t.op o = some { p with aim := .immediate, pulseDue := true } ∧ t.plan o = some pl)
        ∧ (p.stage = .aiming → p.direction = .close → p.attempt = .first →
          ∀ e, t.entry o = some e → e.direction = .close → e.pausedSince = some s.ms)

/-- An outlet of a branch that a shed selection may choose (R129). -/
abbrev Sheddable (s : State) (b : BranchIx) (o : OutletIx) : Prop :=
  branchOf o = b ∧ isClosed (s.position o) = true ∧ s.plan o = none ∧ (s.ocfg o).shedRank ≠ 0

/-- A shed selection has been made on a branch in SHEDDING (R129, R130, R132): of the outlets that it may choose the
highest shed rank, then the higher number, gets its mark, its cause and a SHED OFF plan; with none the phase is
NO_CANDIDATE. -/
def ShedSelected (b : BranchIx) (s t : State) : Prop :=
  (t.gbranch b).state = .shedding ∧ (t.gbranch b).stepCount = 0
    ∧ ((∃ o, Sheddable s b o) → (t.gbranch b).shedPhase = .planRunning
      ∧ ¬ Holds t (branchSource b) causeOverloadUnresolved
      ∧ ∃ x, Sheddable s b x
        ∧ (∀ o, Sheddable s b o → (s.ocfg o).shedRank ≤ (s.ocfg x).shedRank
          ∧ ((s.ocfg o).shedRank = (s.ocfg x).shedRank → o ≤ x))
        ∧ (t.gbranch b).shedOutlet = some x ∧ (t.marks x).shed = true ∧ Pends t (outletSource x) causeShed
        ∧ ∃ p, t.plan x = some p ∧ p.kind = .off ∧ p.origin = .shed)
    ∧ ((∀ o, ¬ Sheddable s b o) → (t.gbranch b).shedPhase = .noCandidate
      ∧ Holds t (branchSource b) causeOverloadUnresolved)

/-- A branch has returned to LIVE from OVERLOAD or SHEDDING (R128, R131, R132). -/
def OverloadOver (b : BranchIx) (t : State) : Prop :=
  (t.gbranch b).state = .live ∧ (t.gbranch b).overloadRun = 0 ∧ (t.gbranch b).shedPhase = .none
    ∧ (t.gbranch b).shedOutlet = none ∧ (t.gbranch b).stepCount = 0
    ∧ ¬ Holds t (branchSource b) causeBranchOverload ∧ ¬ Holds t (branchSource b) causeOverloadUnresolved

/-- The Guard has taken the end of a plan of the outlet that had the origin `origin` (R131, R133): the end of the SHED
plan of the shed outlet moves the branch from PLAN_RUNNING to STEPPING with the step count at 0, and any other end
moves no phase. -/
def ShedPhaseFollows (o : OutletIx) (origin : Origin) (s t : State) : Prop :=
  let g := s.gbranch (branchOf o)
  let u := t.gbranch (branchOf o)
  let moves := g.shedPhase == .planRunning && g.shedOutlet == some o && origin == .shed
  u.state = g.state ∧ u.shedOutlet = g.shedOutlet ∧ u.overloadRun = g.overloadRun
    ∧ u.shedPhase = (if moves then .stepping else g.shedPhase)
    ∧ u.stepCount = (if moves then 0 else g.stepCount)

/-- The position that a resolution by the qualified sense gives (R49). -/
def positionBySense (old : Position) : Sense → Position
  | .present => .closed
  | .absent => .open
  | .unresolved => old

/-- A position that a resolution may change (R49). -/
abbrev Unresolved (p : Position) : Prop := p = .unknown ∨ p = .openUnverified ∨ p = .closedUnverified

/-- The position that an outlet of a LIVE branch has after the resolution of a close (R49). -/
def positionAtClose (s : State) (o : OutletIx) : Position :=
  if s.op o = none ∧ Unresolved (s.position o) then positionBySense (s.position o) s.relay[o].sense else s.position o

/-- An outlet of a branch that a restore selection may choose (R135), at a close that has first asked for the restore of
its release mark: an outlet whose RESTORE plan that request has queued is no longer free (R139; the order of the two:
DESIGN CHOICE, log 11). -/
abbrev Restorable (s : State) (b : BranchIx) (o : OutletIx) : Prop :=
  branchOf o = b ∧ (s.marks o).shed = true ∧ s.plan o = none ∧ isFault (s.position o) = false
    ∧ ((s.marks o).release = true → isClosed (positionAtClose s o) = true)

/-- What a RESTORE ON request does for a release-marked outlet of a branch in LIVE, at an entry or at a later close
(R111, R139): taken, or ended at once on a closed outlet, it clears the mark; an outlet with a plan or at fault declines
and keeps it. -/
def ReleaseRestored (o : OutletIx) (s t : State) : Prop :=
  (s.plan o = none → isFault (s.position o) = false → (t.marks o).release = false)
    ∧ (isFault (s.position o) = true → (t.marks o).release = true ∧ t.position o = s.position o)
    ∧ (s.plan o ≠ none → (s.op o ≠ none ∨ ¬ Unresolved (s.position o)) → (t.marks o).release = true)
    ∧ (s.plan o = none → s.op o = none → isClosed (positionAtClose s o) = true → t.plan o = none
      ∧ slotStatus t o = .ended ∧ (t.slot o).origin = some .restore ∧ (t.slot o).kind = 1
      ∧ (t.slot o).result = .doneNoChange)
    ∧ (s.plan o = none → s.entry o = none → s.op o = none → o ∉ s.sched.retry →
      isClosed (positionAtClose s o) = false → isFault (s.position o) = false →
      Queued o .close .restore s.ms t ∧ (t.slot o).origin = some .restore ∧ (t.slot o).kind = 1
        ∧ slotStatus t o = .active)

/-- The resolution of an outlet without an operation on a branch that is LIVE, and what the change of position does to
a queued plan (R49, R101). -/
def Resolved (o : OutletIx) (s t : State) : Prop :=
  (Unresolved (s.position o) → t.position o = positionBySense (s.position o) s.relay[o].sense)
    ∧ (¬ Unresolved (s.position o) → t.position o = s.position o)

/-- The plan of an outlet that a resolution has reached, in a queued step (R101). -/
def ResolvedPlan (o : OutletIx) (pl : Plan) (s t : State) : Prop :=
  (s.relay[o].sense = .present → pl.step = .queuedClose →
      (pl.kind = .on → PlanEnds o .doneNoChange s t) ∧ (pl.kind = .cycle → PlanEnds o .notVerified s t))
    ∧ (s.relay[o].sense = .absent → pl.step = .queuedOpen → (pl.kind = .off ∨ pl.kind = .cycle) →
      PlanEnds o .doneNoChange s t)

/-- An opening that waited with a reservation free and no other claim on it has been dispatched (R75, R77). Where the
event may queue openings of its own, `queues`, the one that waited had joined in an earlier millisecond. -/
def OpeningGranted (queues : Bool) (s t : State) : Prop :=
  t.port.running = true → s.sched.retry = [] → reservationsHeld s < 4 →
    ∀ o e, s.entry o = some e → e.direction = .open → s.op o = none → s.plan o ≠ none →
      ¬ Unresolved (s.position o) → (queues = false ∨ e.enteredAt ≠ s.ms) →
      (∀ x f, s.entry x = some f → x ≠ o → f.direction = .close) → Granted o .open e.origin e.enteredAt t

/-- A metering window closes and the next one opens: the window and its accumulators, the header of the close with the
line as it stands (R17), the publication, and in every branch's recent-closings list the items of earlier windows have
retired, and the close's dispatch pass has been made (R13, R17, R21, R40, R74, R87). That window indexes are compared as
32-bit numbers: DESIGN CHOICE, log 10. -/
def WindowCloses (s t : State) : Prop :=
  t.line.windowIndex = s.line.windowIndex + 1 ∧ t.line.windowOpened = s.now ∧ t.line.closePending = none
    ∧ t.meter.n = 0 ∧ t.meter.sNN = 0 ∧ (∀ o : OutletIx, (t.ometer o).sII = 0 ∧ (t.ometer o).sVI = 0)
    ∧ (∀ b : BranchIx, (t.bmeter b).sBB = 0) ∧ (∀ p : PhaseIx, (t.pmeter p).sVV = 0 ∧ (t.pmeter p).sPP = 0)
    ∧ t.meter.lastClose.window = s.line.windowIndex ∧ t.meter.lastClose.n = s.meter.n
    ∧ t.meter.lastClose.stale = decide (s.meter.n = 0)
    ∧ t.meter.lastClose.duration = s.now - s.line.windowOpened
    ∧ t.meter.lastClose.seconds = t.line.seconds ∧ t.meter.lastClose.tracker = t.line.tracker
    ∧ t.meter.lastClose.period = t.line.period
    ∧ t.meter.lastClose.frequency = roundDiv 8192000000 t.line.period
    ∧ t.meter.lastClose.rejectRun = t.line.rejectRun
    ∧ t.records.finishBy = some (s.now + 8192)
    ∧ (∀ b : BranchIx, (t.sbranch b).recent
      = (s.sbranch b).recent.filter fun r => decide (s.line.windowIndex.toNat ≤ r.window.toNat))
    ∧ PassLeft t ∧ OpeningGranted true s t

/-- A branch has entered LIVE from RETURNING (R49, R74, R91, R101, R138, R139): the overload state is clear, the
positions of its outlets are resolved, a dispatch pass has been made with the deadlines of the branch's closings as
the run state has them, and every release-marked outlet has had its RESTORE ON request. -/
def ReturnsToLive (b : BranchIx) (s t : State) : Prop :=
  (t.gbranch b).state = .live ∧ (t.gbranch b).returnFrom = none ∧ (t.gbranch b).overloadRun = 0
    ∧ (t.gbranch b).shedPhase = .none ∧ (t.gbranch b).shedOutlet = none ∧ (t.gbranch b).stepCount = 0
    ∧ ¬ Holds t (branchSource b) causeBranchDead ∧ ¬ Holds t (branchSource b) causeBranchOverload
    ∧ (∀ o, branchOf o = b → (s.marks o).release = true → ReleaseRestored o s t)
    ∧ (∀ o, branchOf o ≠ b → t.marks o = s.marks o)
    ∧ (∀ o, (t.marks o).shed = (s.marks o).shed)
    ∧ (∀ o, branchOf o = b → s.op o = none → Resolved o s t)
    ∧ (∀ o, (branchOf o ≠ b ∨ s.op o ≠ none) → t.position o = s.position o)
    ∧ (∀ o pl, s.plan o = some pl → branchOf o = b → s.op o = none → Unresolved (s.position o) →
      (s.marks o).release = false → ResolvedPlan o pl s t)
    ∧ PassLeft t ∧ OpeningGranted false s t
    ∧ (∀ o e f, s.entry o = some e → t.entry o = some f → branchOf o = b → e.direction = .close → s.plan o ≠ none →
      ¬ Unresolved (s.position o) →
      f = { (if s.port.running then resumedEntry s e else pausedEntry s e) with wait := f.wait })

/-- The branch after its debounced sense has taken the value `v` (R91, R124, R136, R138): in RETURNING its closings
wait as LOAD with their deadlines resumed. -/
def SenseMoves (b : BranchIx) (v : Bool) (s t : State) : Prop :=
  (v = false → (t.gbranch b).state = .dead)
    ∧ (v = false → (s.gbranch b).state ≠ .dead → (t.gbranch b).overloadRun = 0
      ∧ (t.gbranch b).shedPhase = .none ∧ (t.gbranch b).shedOutlet = none ∧ (t.gbranch b).stepCount = 0
      ∧ (t.gbranch b).restoreHold = none ∧ (t.gbranch b).returnFrom = none
      ∧ Holds t (branchSource b) causeBranchDead ∧ ¬ Holds t (branchSource b) causeBranchOverload
      ∧ EntersDead b s t)
    ∧ (v = true → (s.gbranch b).state ≠ .dead → (t.gbranch b).state = (s.gbranch b).state)
    ∧ (v = true → (s.gbranch b).state = .dead → ¬ Holds t (branchSource b) causeBranchDead
      ∧ (if (s.bcfg b).returnDelay = 0 then ReturnsToLive b s t
        else (t.gbranch b).state = .returning ∧ (t.gbranch b).returnFrom = some s.now
          ∧ ∀ o e, s.entry o = some e → branchOf o = b → e.direction = .close →
            t.entry o = some { (if s.port.running then resumedEntry s e else pausedEntry s e) with
              wait := if s.port.running then .load else .stopped }))

/-! ### The watch -/

/-- The watch of a powered outlet without a plan after a re-evaluation (R148): IDLE and RECOVERING take the resume
state, a boot grace of 0 being reached at the entry into GRACE (R154); the other states stay. -/
def poweredWatch (bootGrace : Nat) (w : OutletWatch) : OutletWatch :=
  let grace := fun x : OutletWatch =>
    if bootGrace = 0 then { x with state := .watching, quiet := 0 } else { x with state := .grace }
  match w.state, w.resume with
  | .idle, .none | .recovering, .none => grace { w with grace := 0 }
  | .idle, .grace | .recovering, .grace => grace w
  | .idle, .watching | .recovering, .watching => { w with state := .watching }
  | .idle, .stalled | .recovering, .stalled => { w with state := .stalled }
  | _, _ => w

/-- The watch of an outlet that is not powered and has no WATCH plan after a re-evaluation (R148): GRACE, WATCHING and
STALLED go to IDLE with their resume state, RECOVERING with the one it has. -/
def idledWatch (w : OutletWatch) : OutletWatch :=
  match w.state with
  | .grace => { w with state := .idle, resume := .grace }
  | .watching => { w with state := .idle, resume := .watching }
  | .stalled => { w with state := .idle, resume := .stalled }
  | .recovering => { w with state := .idle }
  | .idle | .disabled | .givenUp => w

/-- A fresh grace: of a powered outlet GRACE, or WATCHING with a boot grace of 0; of any other IDLE with resume state
GRACE (R149, R157, R158). -/
def freshWatch (isPowered : Bool) (bootGrace : Nat) (w : OutletWatch) : OutletWatch :=
  { w with
    resume := .grace
    grace := 0
    quiet := 0
    state := if isPowered = false then .idle else if bootGrace = 0 then .watching else .grace }

/-! ### Clamps -/

/-- A value outside the range of its setting, which its check clamps (R180). -/
def outOf (lo hi v : Nat) : Bool := decide (v < lo) || decide (hi < v)

/-! ### What an APPLY reaches -/

/-- A dispatch pass is made on the state `u` when `due`, and otherwise everything stays as it is there, but for the
control port and the notices (R74, R92). -/
def PassWhen (due : Bool) (u t : State) : Prop :=
  (due = true → Only [.port, .notices] (dispatchPass u) t) ∧ (due = false → Only [.port, .notices] u t)

/-- Of the notices only the attention pulse may have changed (R180, R191). -/
abbrev NoticesKept (s t : State) : Prop := t.notices = { s.notices with pulseUntil := t.notices.pulseUntil }

/-- The attention pulse after an APPLY that changed the enable set of a source from `old`: in PULSE mode a pending cause
that it enabled makes one, and nothing else touches it (R191, R192). -/
def ApplyPulse (src : SourceIx) (old : BitVec 8) (s t : State) : Prop :=
  t.notices.pulseUntil =
    if s.port.mode = .pulse ∧ ∃ c : CauseBit, Pends s src c ∧ (enableOf t src).getLsbD c.val = true
      ∧ old.getLsbD c.val = false then some (s.now + 17) else s.notices.pulseUntil

/-- The hold-off expiry that an APPLY of a new spacing sets: the last closing start plus the spacing, none where there
is no such start or the moment has passed (R86). -/
def holdOffAfter (s : State) (last : Option Nat) (spacingMs : Nat) : Option Nat :=
  last.bind fun d => if d + spacingMs * 8192 ≤ s.now then none else some (d + spacingMs * 8192)

/-- The return timer of a branch has reached its applied return delay (R138). -/
def returnReached (s : State) (b : BranchIx) : Bool :=
  (s.gbranch b).returnFrom.any fun d => decide (d + (s.bcfg b).returnDelay * 8192000 ≤ s.now)

/-- The debounce timer of a branch has reached its applied debounce time (R123). -/
def debounceReached (s : State) (b : BranchIx) : Bool :=
  (s.gbranch b).debounceFrom.any fun d => decide (d + (s.bcfg b).debounceMs * 8192 ≤ s.now)

/-- What a branch APPLY does to the sense and the timers of its branch, from the state `u` with the new settings in
place, when the polarity has changed or not (R122, R123, R138, R142). That the polarity comes before the debounce time
and the debounced change before the return timer: DESIGN CHOICE, log 11. -/
def GuardTakesApply (b : BranchIx) (polarity : Bool) (u t : State) : Prop :=
  let g := u.gbranch b
  let v := u.corrected b
  let moves := if polarity then v != g.debounced && decide ((u.bcfg b).debounceMs = 0) else debounceReached u b
  let timer := if moves then none
    else if polarity = false then g.debounceFrom
    else if v = g.debounced then none else some u.now
  (t.gbranch b).debounceFrom = timer ∧ (t.gbranch b).input = g.input
    ∧ (t.gbranch b).debounced = (if moves then v else g.debounced)
    ∧ (moves = true → (returnReached u b = false ∨ (v = false ∧ g.state ≠ .dead)) → SenseMoves b v u t)
    ∧ (moves = false → returnReached u b = true → ReturnsToLive b u t)
    ∧ (moves = false → returnReached u b = false → t.gbranch b = { g with debounceFrom := timer } ∧ NoticesKept u t)

/-! ### Commands that create plans -/

/-- The command creates a plan of the outlet at the host's request: a posting or a group posting that is taken, or the
power-on policy at the first RUNNING (R106, R114, R118). -/
def createsAt (c : Instr) (s : State) (o : OutletIx) : Bool :=
  match c with
  | .postingOn x => postCreates x 1 s o
  | .postingOff x => postCreates x 2 s o
  | .postingCycle x => postCreates x 3 s o
  | .postingUnknownKind x v => postCreates x v s o
  | .groupOn => groupCreates 1 s o
  | .groupOff => groupCreates 2 s o
  | .groupCycle => groupCreates 3 s o
  | .groupUnknownKind v => groupCreates v s o
  | .runSet v | .runClear v | .warmReset v | .attentionMode v => controlCreates v s o
  | .hostWrite a v => hostCreates a v s o
  | _ => false

/-! ### Captures -/

/-- The request that a START takes from the host-owned fields of the capture control block, each checked and its clamp
flag set when the check changed it (R166). -/
def RequestChecked (s : State) (r : CaptureRequest) : Prop :=
  let w := fun off => (Memory.word s.xm off).toNat
  let last := match r.source with | .outlet => 48 | .branch => 6 | .phase => 3
  let most := if r.source = .outlet then 32 else 64
  (w 0x7C = 0 → r.source = .outlet) ∧ (w 0x7C = 1 → r.source = .branch) ∧ (2 ≤ w 0x7C → r.source = .phase)
    ∧ r.index = max 1 (min last (w 0x7E)) ∧ r.cycles = max 1 (min most (w 0x80))
    ∧ (r.trigger = .onOperation ↔ w 0x82 ≠ 0 ∧ r.source = .outlet)
    ∧ r.armTimeout = (if w 0x84 = 0 then 60 else min 600 (w 0x84))
    ∧ ∀ i : Fin 5, r.clamps.getLsbD i.val =
      [outOf 0 2 (w 0x7C), outOf 1 last (w 0x7E), outOf 1 most (w 0x80),
        outOf 0 1 (w 0x82) || decide (w 0x82 ≠ 0 ∧ r.source ≠ .outlet), outOf 0 600 (w 0x84)].getD i.val false

/-! ### Host writes -/

/-- The posting that a value written to an outlet's command word names (R105). -/
def postingOf (o : OutletIx) (v : Word) : Instr :=
  if v = 1 then .postingOn o else if v = 2 then .postingOff o else if v = 3 then .postingCycle o
  else if v = 4 then .postingCancel o else .postingUnknownKind o v

/-- The group posting that a value written to the strip command word names (R113). -/
def groupPostingOf (v : Word) : Instr :=
  if v = 1 then .groupOn else if v = 2 then .groupOff else if v = 3 then .groupCycle
  else if v = 4 then .groupCancel else .groupUnknownKind v

/-- The service that a value written to an outlet's service word names (R179). -/
def outletServiceOf (o : OutletIx) (v : Word) : Instr :=
  if v = 1 then .outletApply o else if v = 2 then .clearEnergy o else if v = 3 then .rearmWatch o
  else if v = 4 then .clearFault o else .unknownService (.outlet o) v

/-- The service that a value written to a branch's service word names (R179). -/
def branchServiceOf (b : BranchIx) (v : Word) : Instr :=
  if v = 1 then .branchApply b else .unknownService (.branch b) v

/-- The service that a value written to the strip service word names (R179). -/
def stripServiceOf (v : Word) : Instr :=
  if v = 1 then .stripApply else if v = 2 then .clearAllEnergy else .unknownService .strip v

/-- The command that a value written to the capture command word names (R167). -/
def captureCommandOf (v : Word) : Instr :=
  if v = 1 then .captureStart else if v = 2 then .captureAbort else .captureUnknownCommand v

/-- A host write of a word at a byte offset of exchange memory. -/
def writeAt (off : Nat) (v : Word) : Instr := .hostWrite (.xm (BitVec.ofNat 13 (off / 2))) v

/-! ### Host reads -/

/-- A two-word field, the less significant word at the lower offset (R175). -/
def twoWordField (off v : Nat) : List (Nat × Nat) := [(off, v % 65536), (off + 2, v / 65536)]

/-- The number of a single-bit field. -/
def flagNumber (b : Bool) : Nat := if b then 1 else 0

/-- The code of a field that may be absent, which then reads 0. -/
def codeOf {α : Type} (f : α → Word) (x : Option α) : Nat :=
  match x with
  | none => 0
  | some a => (f a).toNat

/-- The common header of a reading record, with the flags above STALE. -/
def headerLayout (off : Nat) (h : RecordHeader) (flags : Nat) : List (Nat × Nat) :=
  [(off, h.seq.toNat), (off + 2, h.window.toNat % 65536), (off + 4, h.n), (off + 6, flagNumber h.stale + flags)]

/-- The notice word of a source: its pending set in the lower byte, its taken set in the upper one. -/
def noticeNumber (s : State) (src : SourceIx) : Nat :=
  (s.notice src).pending.toNat + 256 * (s.notice src).taken.toNat

/-- What a service word reads: the last result in the lower byte, the count in the upper one (R179). -/
def serviceNumber (x : Service) : Nat := (serviceResultWord x.result).toNat + 256 * x.count.toNat

/-- The part-owned and watched words of an outlet record, by their offsets (the layout of chapter 09). -/
def outletLayout (s : State) (o : OutletIx) : List (Nat × Nat) :=
  let r := s.records.outlets[o]
  let y := s.relay[o]
  let w := s.owatch o
  let x := s.slot o
  headerLayout 0x00 r.header (2 * flagNumber r.creep + 4 * flagNumber r.reverse)
    ++ [(0x08, r.irms), (0x0A, r.power), (0x0C, r.apparent), (0x0E, r.factor)] ++ twoWordField 0x10 r.wh
    ++ [(0x14, r.learned), (0x16, (positionWord y.position).toNat), (0x18, (senseWord y.sense).toNat),
      (0x1A, codeOf (fun p => stageWord p.stage) y.op), (0x1C, codeOf directionWord y.status.direction),
      (0x1E, codeOf originWord y.status.origin), (0x20, codeOf attemptWord y.status.attempt),
      (0x22, codeOf aimWord y.status.aim), (0x24, y.status.startSec.toNat % 65536),
      (0x26, (watchWord w.state).toNat), (0x28, (resumeWord w.resume).toNat), (0x2A, (holdWord w.hold).toNat),
      (0x2C, w.grace), (0x2E, w.quiet), (0x30, w.attempts)]
    ++ twoWordField 0x32 w.healthy ++ twoWordField 0x36 w.lastKick.toNat
    ++ [(0x3A, flagNumber (s.marks o).shed), (0x3C, flagNumber (s.marks o).release),
      (0x3E, noticeNumber s (outletSource o)), (0x40, (statusWord (slotStatus s o)).toNat),
      (0x46, codeOf originWord x.origin), (0x48, x.kind.toNat),
      (0x4A, codeOf (fun p => stepWord p.step) (s.plan o)), (0x4C, codeOf (fun e => waitWord e.wait) (s.entry o)),
      (0x4E, (resultWord x.result).toNat), (0x50, x.tag.toNat)]
    ++ twoWordField 0x52 x.endSec.toNat
    ++ [(0x56, match x.replaced with
        | none => 0
        | some r => (kindWord r.2).toNat + 256 * (originWord r.1).toNat),
      (0x58, x.refusalTag.toNat + 256 * (resultWord x.refusal).toNat),
      (0x5A, serviceNumber s.port.outletService[o]), (0x5C, s.port.outletClamps[o].toNat)]

/-- The part-owned and watched words of a branch record. -/
def branchLayout (s : State) (b : BranchIx) : List (Nat × Nat) :=
  let r := s.records.branches[b]
  let g := s.gbranch b
  let x := s.sbranch b
  headerLayout 0x00 r.header 0 ++ twoWordField 0x08 r.irms ++ twoWordField 0x0C r.power
    ++ [(0x10, (branchStateWord g.state).toNat),
      (0x12, flagNumber (g.input != (s.bcfg b).lowPresent) + 256 * flagNumber g.debounced),
      (0x14, g.overloadRun), (0x16, (shedPhaseWord g.shedPhase).toNat),
      (0x18, match g.shedOutlet with
        | none => 0
        | some o => o.val + 1),
      (0x1A, g.stepCount), (0x1C, g.restoreHold.getD 0),
      (0x1E, ((outletsOf b).filter fun o => (s.marks o).shed).length
        + 256 * ((outletsOf b).filter fun o => (s.marks o).release).length),
      (0x20, x.rank.val), (0x22, x.pointer.val + 1), (0x24, x.recent.length),
      (0x26, noticeNumber s (branchSource b)), (0x3C, serviceNumber s.port.branchService[b]),
      (0x3E, s.port.branchClamps[b].toNat)]

/-- The part-owned words of a phase record. -/
def phaseLayout (s : State) (p : PhaseIx) : List (Nat × Nat) :=
  let r := s.records.phases[p]
  headerLayout 0x00 r.header 0 ++ [(0x08, r.vrms)] ++ twoWordField 0x0A r.irms ++ twoWordField 0x0E r.power
    ++ [(0x12, flagNumber r.present), (0x14, noticeNumber s (phaseSource p)), (0x1E, (s.pcfg p).presence),
      (0x20, (s.pcfg p).voltageGain), (0x22, (s.pcfg p).undervoltage), (0x24, (s.pcfg p).overvoltage)]

/-- The part-owned and watched words of the strip block. -/
def stripLayout (s : State) : List (Nat × Nat) :=
  let r := s.records.strip
  let c := s.settings.strip
  let g := s.plans.group
  let k := s.capture
  [(0x00, 0x6481), (0x02, 1), (0x04, 48), (0x06, 6), (0x08, 3)] ++ headerLayout 0x0A r.header 0
    ++ twoWordField 0x12 r.neutral ++ twoWordField 0x16 r.totalPower ++ twoWordField 0x1A r.duration
    ++ twoWordField 0x1E r.seconds.toNat ++ [(0x22, (trackerWord r.tracker).toNat)] ++ twoWordField 0x24 r.period
    ++ [(0x28, r.frequency), (0x2A, r.rejectRun), (0x2E, (allOutlets.filter fun o => (s.entry o).isSome).length),
      (0x30, (allOutlets.filter fun o => (s.op o).any fun p => p.stage == .aiming || p.stage == .pulsing).length),
      (0x32, s.sched.retry.length), (0x34, noticeNumber s stripSource), (0x44, c.creep), (0x46, c.neutralLimit),
      (0x48, c.defaultLoad), (0x4A, c.spacing), (0x4C, c.admissionTimeout), (0x4E, c.reRaise),
      (0x50, c.enable.toNat), (0x52, serviceNumber s.port.stripService), (0x54, s.port.stripClamps.toNat),
      (0x56, s.port.phaseClamps.toNat), (0x58, s.watch.kickWord.toNat), (0x5A, (statusWord g.status).toNat),
      (0x64, g.kind.toNat), (0x66, (resultWord g.result).toNat), (0x68, g.requested), (0x6A, g.taken),
      (0x6C, g.busy), (0x6E, g.refused), (0x70, g.done), (0x72, g.failed), (0x74, g.cancelled)]
    ++ twoWordField 0x76 g.endSec.toNat
    ++ [(0x7A, (resultWord g.refusal).toNat), (0x86, (captureStateWord k.state).toNat),
      (0x88, (captureSourceWord k.request.source).toNat), (0x8A, k.request.index), (0x8C, k.request.cycles),
      (0x8E, (captureTriggerWord k.request.trigger).toNat), (0x90, k.request.armTimeout),
      (0x92, k.request.clamps.toNat), (0x94, k.fill), (0x96, k.missed), (0x98, flagNumber k.holdover),
      (0x9A, (endReasonWord k.endReason).toNat), (0x9C, (resultWord k.refusal).toNat)]

/-- A record of `size` bytes reads as a layout says: each of its words, and 0 at a word that is neither in it nor
host-owned (R175). -/
def ReadsAs (s : State) (base size : Nat) (layout : List (Nat × Nat)) : Prop :=
  (∀ e ∈ layout, readXm s (base + e.1) = BitVec.ofNat 16 e.2)
    ∧ ∀ r, r < size → r % 2 = 0 → hostOwned (base + r) = false → (∀ e ∈ layout, e.1 ≠ r) →
      readXm s (base + r) = 0

/-- The codes of the fields are those of the code table of chapter 09. -/
def CodesAsTabled : Prop :=
  [SlotStatus.empty, .active, .ended].map statusWord = [0, 1, 2]
    ∧ [ResultCode.none, .done, .doneNoChange, .notVerified, .cancelled, .loadTimeout, .failedToClose, .failedToOpen,
      .reset, .notOn, .fault, .nothingToCancel, .badKind, .busy, .groupDone].map resultWord
      = [0, 1, 2, 3, 4, 5, 6, 7, 8, 9, 10, 11, 12, 13, 14]
    ∧ [ServiceResult.none, .ok, .clamped, .badService].map serviceResultWord = [0, 1, 2, 3]
    ∧ [Origin.posted, .group, .watch, .shed, .restore, .release, .policy].map originWord = [1, 2, 3, 4, 5, 6, 7]
    ∧ [PlanKind.on, .off, .cycle].map kindWord = [1, 2, 3]
    ∧ [PlanStep.queuedOpen, .opening, .dwell, .queuedClose, .closing].map stepWord = [1, 2, 3, 4, 5]
    ∧ [WaitReason.none, .stopped, .branchDead, .coil, .spacing, .load].map waitWord = [0, 1, 2, 3, 4, 5]
    ∧ [Position.unknown, .open, .closed, .openUnverified, .closedUnverified, .faultStuckOpen,
      .faultStuckClosed].map positionWord = [0, 1, 2, 3, 4, 5, 6]
    ∧ [Sense.unresolved, .present, .absent].map senseWord = [0, 1, 2]
    ∧ [Stage.aiming, .pulsing, .settling, .verifying, .retryWait].map stageWord = [1, 2, 3, 4, 5]
    ∧ [Direction.open, .close].map directionWord = [1, 2] ∧ [Attempt.first, .second].map attemptWord = [1, 2]
    ∧ [Aim.voltage, .current, .immediate].map aimWord = [1, 2, 3]
    ∧ [WatchState.disabled, .idle, .grace, .watching, .stalled, .recovering, .givenUp].map watchWord
      = [0, 1, 2, 3, 4, 5, 6]
    ∧ [Resume.none, .grace, .watching, .stalled].map resumeWord = [0, 1, 2, 3]
    ∧ [CountHold.none, .standby, .stale].map holdWord = [0, 1, 2]
    ∧ [BranchState.dead, .returning, .live, .overload, .shedding].map branchStateWord = [0, 1, 2, 3, 4]
    ∧ [ShedPhase.none, .planRunning, .stepping, .noCandidate].map shedPhaseWord = [0, 1, 2, 3]
    ∧ [Tracker.searching, .locked, .holdover].map trackerWord = [0, 1, 2]
    ∧ [CaptureState.idle, .armed, .running, .done, .aborted].map captureStateWord = [0, 1, 2, 3, 4]
    ∧ [EndReason.none, .count, .aborted, .noTrigger, .reset].map endReasonWord = [0, 1, 2, 3, 4]
    ∧ [CaptureSource.outlet, .branch, .phase].map captureSourceWord = [0, 1, 2]
    ∧ [CaptureTrigger.nextCycle, .onOperation].map captureTriggerWord = [0, 1]

/-! ### Invariants -/

/-- At most four operations hold a coil reservation (R52, R75). -/
def ReservationsBounded (s : State) : Prop := reservationsHeld s ≤ Config.reservations

/-- The six strip ranks are a permutation of 0..5: no two branches share one (R84). -/
def RanksDistinct (s : State) : Prop := ∀ a b : BranchIx, (s.sbranch a).rank = (s.sbranch b).rank → a = b

/-- The bytes of exchange memory are in their canonical form. -/
def MemoryCanonical (s : State) : Prop := Memory.wf s.xm = true

/-- The residue of every outlet is below one watt-hour and its Wh within its limit (R31). -/
def EnergyBounded (s : State) : Prop :=
  ∀ o : OutletIx, (s.ometer o).residue < Config.wattHour ∧ (s.ometer o).wh ≤ Config.whMax

/-- The bounds of one set of reported readings (R27 to R29). -/
def ReadingBounds (irms power apparent factor : Nat) : Prop :=
  factor ≤ 1000 ∧ power ≤ 65535 ∧ apparent ≤ 65535 ∧ (irms = 0 → power = 0 ∧ apparent = 0 ∧ factor = 0)

/-- Every outlet's readings, those held by the engine and those published, keep their bounds (R29). -/
def ReadingsBounded (s : State) : Prop :=
  ∀ o : OutletIx,
    ReadingBounds (s.ometer o).irms (s.ometer o).power (s.ometer o).apparent (s.ometer o).factor ∧
    ReadingBounds (s.records.outlets[o]).irms (s.records.outlets[o]).power (s.records.outlets[o]).apparent
      (s.records.outlets[o]).factor

/-- The sets of one source: no cause is pending and taken at once, only level causes are taken, and a level
cause is held exactly when it is pending or taken (R186, R188). -/
def NoticeSound (level : BitVec 8) (n : Notice) : Prop :=
  n.pending &&& n.taken = 0 ∧ n.taken &&& ~~~level = 0 ∧ n.held = (n.pending ||| n.taken) &&& level

/-- Every source's sets are sound. -/
def NoticesSound (s : State) : Prop := ∀ src : SourceIx, NoticeSound (levelMask src) (s.notice src)

/-- No outlet's attempts exceed its applied attempt limit (R155, R162). -/
def AttemptsBounded (s : State) : Prop := ∀ o : OutletIx, (s.owatch o).attempts ≤ (s.ocfg o).attemptLimit

/-- The applied outlet settings lie in the ranges of their tables. -/
def OutletInRange (c : OutletSettings) : Prop :=
  (16384 ≤ c.currentGain ∧ c.currentGain ≤ 49151) ∧ (100 ≤ c.currentLimit ∧ c.currentLimit ≤ 32000)
    ∧ c.expectedLoad ≤ 32000 ∧ (5 ≤ c.coilPulse ∧ c.coilPulse ≤ 50) ∧ (5 ≤ c.settle ∧ c.settle ≤ 100)
    ∧ c.advance ≤ 63 ∧ c.priority ≤ 3 ∧ (1 ≤ c.offDwell ∧ c.offDwell ≤ 600) ∧ c.shedRank ≤ 15
    ∧ c.attemptLimit ≤ 7 ∧ c.bootGrace ≤ 1800 ∧ (10 ≤ c.quietLimit ∧ c.quietLimit ≤ 3600)
    ∧ (1 ≤ c.activityBand ∧ c.activityBand ≤ 5000) ∧ c.standbyFloor ≤ 5000
    ∧ (60 ≤ c.recoverySpan ∧ c.recoverySpan ≤ 86400)

/-- The applied branch settings lie in the ranges of their tables, the restore percentage below the overload
percentage (R126, R141). -/
def BranchInRange (c : BranchSettings) : Prop :=
  (16384 ≤ c.currentGain ∧ c.currentGain ≤ 49151) ∧ (1000 ≤ c.rated ∧ c.rated ≤ 63000)
    ∧ (10 ≤ c.admission ∧ c.admission ≤ 100) ∧ (50 ≤ c.overload ∧ c.overload ≤ 150)
    ∧ (10 ≤ c.restore ∧ c.restore ≤ 100) ∧ c.restore < c.overload ∧ (1 ≤ c.persistence ∧ c.persistence ≤ 60)
    ∧ (1 ≤ c.shedStep ∧ c.shedStep ≤ 60) ∧ c.debounceMs ∈ [0, 10, 20, 40] ∧ c.spacing ≤ 5000
    ∧ c.restoreDelay ≤ 3600 ∧ c.returnDelay ≤ 600

/-- The applied phase settings lie in the ranges of their tables (R16, R43, R44). -/
def PhaseInRange (c : PhaseSettings) : Prop :=
  (2000 ≤ c.presence ∧ c.presence ≤ 20000) ∧ (16384 ≤ c.voltageGain ∧ c.voltageGain ≤ 49151)
    ∧ c.undervoltage ≤ c.overvoltage ∧ c.overvoltage ≤ 65535

/-- The applied strip settings lie in the ranges of their tables. -/
def StripInRange (c : StripSettings) : Prop :=
  c.creep ≤ 500 ∧ (1000 ≤ c.neutralLimit ∧ c.neutralLimit ≤ 65000)
    ∧ (100 ≤ c.defaultLoad ∧ c.defaultLoad ≤ 32000) ∧ c.spacing ≤ 5000
    ∧ (1 ≤ c.admissionTimeout ∧ c.admissionTimeout ≤ 3600) ∧ (5 ≤ c.reRaise ∧ c.reRaise ≤ 3600)

/-- Every applied setting lies in its range. -/
def SettingsInRange (s : State) : Prop :=
  (∀ o : OutletIx, OutletInRange (s.ocfg o)) ∧ (∀ b : BranchIx, BranchInRange (s.bcfg b))
    ∧ (∀ p : PhaseIx, PhaseInRange (s.pcfg p)) ∧ StripInRange s.settings.strip

/-- The step of a plan is one of its kind's (R97); a superseding OFF that waits shows the step of the operation it
waits for (R110). -/
def StepFits (p : Plan) : Prop :=
  match p.kind with
  | .on => p.waiting = false ∧ (p.step = .queuedClose ∨ p.step = .closing)
  | .off => if p.waiting then p.step = .opening ∨ p.step = .closing else p.step = .queuedOpen ∨ p.step = .opening
  | .cycle => p.waiting = false

/-- One outlet's plan, schedule entry and operation agree (R97, R98, R99): the plan's step is one of its kind's;
an entry waits for a plan in the queued step of its direction and excludes an operation; an operation runs for a
plan in the step of its direction; a plan with neither is in DWELL. -/
def CoupledAt (s : State) (o : OutletIx) : Prop :=
  (∀ p, s.plan o = some p → StepFits p) ∧
  (∀ e, s.entry o = some e → s.op o = none ∧ ∃ p, s.plan o = some p ∧ p.step = queuedStep e.direction)
    ∧ (∀ q, s.op o = some q → ∃ p, s.plan o = some p ∧ p.step = operationStep q.direction)
    ∧ (s.entry o = none → s.op o = none → ∀ p, s.plan o = some p → p.step = .dwell)

/-- Every outlet's plan, entry and operation agree. -/
def Coupled (s : State) : Prop := ∀ o : OutletIx, CoupledAt s o

/-- The machine's invariants together. -/
def SafeState (s : State) : Prop :=
  ReservationsBounded s ∧ RanksDistinct s ∧ MemoryCanonical s ∧ EnergyBounded s ∧ ReadingsBounded s
    ∧ NoticesSound s ∧ AttemptsBounded s ∧ SettingsInRange s ∧ Coupled s

/-- A safe answer: the next state, and one that keeps the invariants. -/
def SafeAnswer (r : Host.Outcome State Fault Refusal) : Prop := ∃ t, r = .next t ∧ SafeState t

end Sys2Proof.Machine
end

