-- ==== Sys2Proof/Certificates/Slice0/Obligations.lean ====
section
/-! DEFINITION. The statements about the machine, one proposition each. They are about every state that meets
their premises; `Ready` is the premise that the part is out of reset and no event of the last tick waits. -/

open Sys2Proof Sys2Proof.Machine

/-! ### The step and the part as a whole -/

/-- A step with a command at the front of the queue is `exec` of that command with the queue's rest. With no command
waiting, the step carries out the first event that has come, or lets one count of the reference clock pass, in which
a publication in progress makes its next half-bracket (log 5); a part held in reset does nothing, and its clock
stands still: the model's choice (log 3). The queue and the order of the clock's events are the model's choice too
(log 1). -/
def Obligations.StepRunsFrontCommand : Prop :=
  (∀ (c : Instr) (rest : List Instr) (s : State),
    step { s with pending := c :: rest } = exec c { s with pending := rest })
  ∧ (∀ s : State, s.pending = [] →
    (s.resetHeld = true → step s = .next s)
    ∧ (s.resetHeld = false → dueCommands s = [] → s.records.finishBy = none →
      step s = .next { s with now := s.now + 1 })
    ∧ (s.resetHeld = false → dueCommands s = [] → s.records.finishBy ≠ none →
      ∃ t, step s = .next t ∧ Only [.now, .records] s t ∧ t.now = s.now + 1)
    ∧ (s.resetHeld = false → ∀ c rest, dueCommands s = c :: rest → step s = exec c s))

/-- Every command answers a next state, in every state. It takes no command from the queue; only the reset pin changes
the time and the reset; and what the last tick declared is carried out before any command that is not itself such an
event, where the request of a stall finds the plan that a command of the host creates at the same moment (R153, R154,
R155). That what the tick declared waits for a step of its own, and what counts as the same moment, is the model's
choice (log 7). -/
def Obligations.EveryCommandAnswers : Prop :=
  ∀ (c : Instr) (s : State), ∃ t, exec c s = .next t ∧ t.pending = s.pending
    ∧ ((∀ held, c ≠ .powerOnReset held) → t.now = s.now ∧ t.resetHeld = s.resetHeld)
    ∧ (s.resetHeld = false → (∀ held, c ≠ .powerOnReset held) → (∀ e, c ≠ tickCommand e) →
      exec c s = exec c (flushBefore (createsAt c) s) ∧ (c ≠ .tick → t.tickDue = [])
        ∧ ((∀ u o, createsAt c u o = false) → exec c s = exec c (flushTick s)))

/-- While the reset pin is held the part serves no access: writes are dropped, reads return 0, the attention line is
high, the LEDs are off, and pins move (R185, R192; log 3). The release puts the state table of each chapter in place,
row by row: the line, the meter and the records with no publication in progress, the relays with their status, the
schedule with its ranks, pointers and hold-offs, the plans, the guard, the watch, the capture, the notices with their
rotations, the port with its service words and clamp flags, the applied settings at their defaults, and exchange
memory (R18, R45, R69, R94, R120, R144, R165, R174, R181, R185, R193). The branch-sense inputs keep their levels, and
a present one starts its debounce timer. Of the values put in place, the enable sets of 0xFF (log 21), and those of
the model's own fields, the count of half-brackets (log 5), the capture's kept cycle kind (log 13) and the last POLL
value with the list of a tick's events (log 18), are the model's choice, and so is what the part does while it is held
(log 3). -/
def Obligations.ResetPinHoldsAndReleases : Prop :=
  (∀ s : State, s.resetHeld = true →
    (∀ c, (∀ held, c ≠ .powerOnReset held) → (∀ b level, c ≠ .branchSenseChange b level) → c ≠ .pollRead →
      exec c s = .next s)
    ∧ (∀ b level, ∃ t, exec (.branchSenseChange b level) s = .next t ∧ Only [.guard] s t
      ∧ SameElseBranch b s.guard.branches t.guard.branches ∧ t.guard.marks = s.guard.marks
      ∧ t.gbranch b = { s.gbranch b with input := level })
    ∧ (∃ t, exec .pollRead s = .next t ∧ Only [.port] s t ∧ t.port = { s.port with pollValue := 0 })
    ∧ (∀ off, readXm s off = 0) ∧ (∀ r, readRegister s r = 0) ∧ attentionLine s = true
    ∧ (∀ o, outletLed s o = false) ∧ (∀ b, branchLed s b = false))
  ∧ (∀ s : State,
    (∃ t, exec (.powerOnReset true) s = .next t ∧ t.resetHeld = true ∧ t.pending = s.pending)
    ∧ ∃ t, exec (.powerOnReset false) s = .next t ∧ t.resetHeld = false ∧ t.pending = s.pending ∧ t.now = 0
      ∧ (t.line.tracker = .searching ∧ t.line.period = 163840 ∧ t.line.edgeRef = none
        ∧ t.line.prevCandidate = none ∧ t.line.lockRun = 0 ∧ t.line.rejectRun = 0 ∧ t.line.deadline = none
        ∧ t.line.cycleStart = 0 ∧ t.line.cycleNo = 1 ∧ t.line.cycleKind = .freeRun ∧ t.line.nextSlot = 1
        ∧ t.line.inFlight = some { slot := 0, startAt := 0, captured := false } ∧ t.line.prevSamples = none
        ∧ t.line.seconds = 0 ∧ t.line.nextTick = 8192000 ∧ t.line.closePending = none
        ∧ t.line.windowIndex = 0 ∧ t.line.windowOpened = 0
        ∧ (∀ p : PhaseIx, t.line.voltage[p] = {} ∧ t.line.present[p] = false)
        ∧ (∀ o : OutletIx, t.line.current[o] = none) ∧ t.line.stale = false ∧ t.line.missedRun = 0)
      ∧ (t.meter.n = 0 ∧ t.meter.sNN = 0 ∧ t.meter.neutral = 0 ∧ t.meter.totalPower = 0
        ∧ (∀ o, t.ometer o = {}) ∧ (∀ b, t.bmeter b = {}) ∧ (∀ p, t.pmeter p = {}) ∧ t.meter.lastClose = {}
        ∧ t.records.finishBy = none ∧ t.records.turn = 0 ∧ t.records.deferred = [] ∧ t.records.strip = {}
        ∧ (∀ o : OutletIx, t.records.outlets[o] = {})
        ∧ (∀ b : BranchIx, t.records.branches[b] = {}) ∧ (∀ p : PhaseIx, t.records.phases[p] = {}))
      ∧ (∀ o : OutletIx, t.position o = .unknown ∧ t.relay[o].sense = .unresolved ∧ t.relay[o].history = []
        ∧ t.op o = none ∧ t.relay[o].status = {} ∧ t.entry o = none ∧ t.plan o = none ∧ t.slot o = {}
        ∧ slotStatus t o = .empty ∧ t.port.outletService[o] = {} ∧ t.port.outletClamps[o] = 0 ∧ outletLed t o = false
        ∧ t.marks o = {} ∧ t.owatch o = {} ∧ t.ocfg o = {} ∧ t.notice (outletSource o) = {})
      ∧ (∀ b : BranchIx, (t.sbranch b).rank.val + b.val = 5 ∧ (t.sbranch b).pointer = outletAt b 7
        ∧ (t.sbranch b).lastStart = none ∧ (t.sbranch b).holdOff = none ∧ (t.sbranch b).recent = []
        ∧ (t.gbranch b).state = .dead ∧ (t.gbranch b).overloadRun = 0 ∧ (t.gbranch b).shedPhase = .none
        ∧ (t.gbranch b).shedOutlet = none ∧ (t.gbranch b).stepCount = 0 ∧ (t.gbranch b).restoreHold = none
        ∧ (t.gbranch b).returnFrom = none ∧ t.port.branchService[b] = {} ∧ t.port.branchClamps[b] = 0
        ∧ branchLed t b = false
        ∧ (t.gbranch b).debounced = false ∧ (t.gbranch b).input = (s.gbranch b).input
        ∧ ((t.gbranch b).debounceFrom = if (s.gbranch b).input then some 0 else none) ∧ t.bcfg b = {}
        ∧ t.notice (branchSource b) = { pending := 4, held := 4 })
      ∧ t.notice stripSource = {} ∧ (∀ p, t.notice (phaseSource p) = {})
      ∧ t.notices.branchRotation = 5 ∧ t.notices.outletRotation = 47 ∧ t.notices.pulseUntil = none
      ∧ t.notices.flash = { locate := true, fault := true, stall := true, plan := true }
      ∧ t.sched.retry = [] ∧ t.sched.inAim = none ∧ t.sched.lastStart = none ∧ t.sched.holdOff = none
      ∧ t.plans.group = {} ∧ t.port.stripService = { count := 0, result := .none } ∧ t.port.stripClamps = 0
      ∧ t.port.phaseClamps = 0 ∧ t.port.pollValue = 0 ∧ t.tickDue = []
      ∧ t.plans.policyDone = false ∧ t.watch.kickWord = 0 ∧ t.capture = {} ∧ t.port.running = false
      ∧ t.port.mode = .levelLow ∧ attentionLine t = false ∧ (∀ p, t.pcfg p = {}) ∧ t.settings.strip = {}
      ∧ ∀ a, Memory.read t.xm a = 0)

/-- The state right after reset meets every invariant of the machine. -/
def Obligations.ResetIsSafe : Prop := SafeState State.reset

/-! ### Invariants that every step keeps -/

/-- Exchange memory's stored bytes keep their canonical form. -/
def Obligations.StepKeepsMemoryCanonical : Prop :=
  ∀ s t : State, MemoryCanonical s → step s = .next t → MemoryCanonical t

/-- At most four operations hold a coil reservation (R52, R75). -/
def Obligations.StepKeepsReservationsBounded : Prop :=
  ∀ s t : State, ReservationsBounded s → step s = .next t → ReservationsBounded t

/-- The six strip ranks remain a permutation of 0..5 (R84). -/
def Obligations.StepKeepsRanksDistinct : Prop :=
  ∀ s t : State, RanksDistinct s → step s = .next t → RanksDistinct t

/-- Every outlet's residue stays below one watt-hour and its count within its limit (R31), and every outlet's readings,
held and published, keep the bounds of R29. -/
def Obligations.StepKeepsMeterBounds : Prop :=
  (∀ s t : State, EnergyBounded s → step s = .next t → EnergyBounded t)
  ∧ (∀ s t : State, ReadingsBounded s → step s = .next t → ReadingsBounded t)

/-- An outlet's watt-hour count never decreases, except through power-on reset, its CLEAR_ENERGY or the strip's
CLEAR_ALL_ENERGY (R31). -/
def Obligations.WattHoursNeverDecrease : Prop :=
  ∀ (c : Instr) (s t : State) (o : OutletIx), WellFormed c = true → EnergyBounded s →
    (∀ held, c ≠ .powerOnReset held) → c ≠ .clearEnergy o → c ≠ .clearAllEnergy → exec c s = .next t →
    (s.ometer o).wh ≤ (t.ometer o).wh

/-- No cause is pending and taken at once, only level causes are taken, and a level cause's condition record
reads held exactly while it is pending or taken (R186, R188). -/
def Obligations.StepKeepsNoticesSound : Prop :=
  ∀ s t : State, NoticesSound s → step s = .next t → NoticesSound t

/-- An outlet's watch attempts never exceed its applied attempt limit (R155, R162). -/
def Obligations.StepKeepsAttemptsBounded : Prop :=
  ∀ s t : State, AttemptsBounded s → step s = .next t → AttemptsBounded t

/-- Every applied setting stays in the range of its table (R43, R44, R126, R141, R180). -/
def Obligations.StepKeepsSettingsInRange : Prop :=
  ∀ s t : State, SettingsInRange s → step s = .next t → SettingsInRange t

/-- Every outlet's plan, entry and operation stay in agreement (R97 to R100, R121). -/
def Obligations.StepKeepsCoupled : Prop :=
  ∀ s t : State, Coupled s → step s = .next t → Coupled t

/-! ### Line Tracker -/

/-- The first edge after reset sets the edge reference alone, an edge within a quarter period is ignored, and a
rejected candidate counts, clears the lock run and starts nothing; at the eighth in a row LOCKED is left for HOLDOVER,
where a pending window close closes (R1, R2, R4, R13). That HOLDOVER is entered before that close, and that the close
compares window indexes as 32-bit numbers, is the model's choice (logs 11 and 10). -/
def Obligations.EdgeWithoutCycle : Prop :=
  ∀ s : State, Ready s →
    (s.line.edgeRef = none →
      exec .lineSyncEdge s = .next { s with line := { s.line with edgeRef := some s.now } })
    ∧ (∀ r, s.line.edgeRef = some r → s.now - r < s.line.period / 4 → exec .lineSyncEdge s = .next s)
    ∧ ∀ c, TimedEdge s c → (c < 126031 ∨ 182044 < c) →
      ((s.line.tracker = .locked → s.line.rejectRun + 1 < 8) →
        exec .lineSyncEdge s = .next { s with
          line := { s.line with
            edgeRef := some s.now, rejectRun := min 255 (s.line.rejectRun + 1), lockRun := 0
            prevCandidate := none } })
      ∧ (s.line.tracker = .locked → 8 ≤ s.line.rejectRun + 1 → s.line.closePending = none →
        ∃ t, exec .lineSyncEdge s = .next t ∧ Only [.line, .notices] s t
          ∧ t.line = { s.line with
            edgeRef := some s.now, rejectRun := 0, lockRun := 0, prevCandidate := none
            tracker := .holdover, deadline := none }
          ∧ Holds t stripSource causeLineHoldover)
      ∧ (s.line.tracker = .locked → 8 ≤ s.line.rejectRun + 1 → s.line.closePending ≠ none →
        ∃ t, exec .lineSyncEdge s = .next t ∧ t.line.tracker = .holdover ∧ t.line.edgeRef = some s.now
          ∧ t.line.rejectRun = 0 ∧ t.line.lockRun = 0 ∧ t.line.prevCandidate = none ∧ t.line.deadline = none
          ∧ t.line.period = s.line.period ∧ Holds t stripSource causeLineHoldover ∧ WindowCloses s t)

/-- In LOCKED every in-range candidate becomes the period, starts a cycle and restarts the deadline; a pending
window close closes there with its dispatch pass (R4, R13, R17, R74, R87). That the close follows the new period and the
new cycle (log 11), and that it compares window indexes as 32-bit numbers (log 10), is the model's choice. -/
def Obligations.LockedEdgeAccepted : Prop :=
  ∀ (s : State) (c : Nat), Ready s → s.line.tracker = .locked → TimedEdge s c → 126031 ≤ c → c ≤ 182044 →
    ∃ t, exec .lineSyncEdge s = .next t ∧ t.line.tracker = .locked ∧ t.line.period = c
      ∧ t.line.edgeRef = some s.now ∧ t.line.rejectRun = 0 ∧ t.line.deadline = some (s.now + 819200)
      ∧ CycleStarts .edge s.now s t ∧ t.line.seconds = s.line.seconds
      ∧ (s.line.closePending = none → Only [.line, .relay, .capture, .notices] s t
        ∧ (∀ o, t.position o = s.position o) ∧ t.line.windowIndex = s.line.windowIndex)
      ∧ (s.line.closePending ≠ none → WindowCloses s t)

/-- The lock run of an in-range candidate: 1/16 of the previous one in SEARCHING, every one in HOLDOVER; the
fourth enters LOCKED at its edge, which starts a cycle (R3, R6). That HOLDOVER keeps no previous candidate is the
model's choice (log 23). -/
def Obligations.LockRun : Prop :=
  ∀ (s : State) (c run : Nat), Ready s → TimedEdge s c → 126031 ≤ c → c ≤ 182044 →
    ((s.line.tracker = .searching ∧
        run = match s.line.prevCandidate with
          | none => 1
          | some c0 => if (c - c0) + (c0 - c) ≤ c0 / 16 then s.line.lockRun + 1 else 1)
      ∨ (s.line.tracker = .holdover ∧ run = s.line.lockRun + 1)) →
    (run < 4 → s.line.tracker = .searching → exec .lineSyncEdge s = .next { s with
      line := { s.line with
        edgeRef := some s.now, rejectRun := 0, lockRun := run, prevCandidate := some c } })
    ∧ (run < 4 → s.line.tracker = .holdover → exec .lineSyncEdge s = .next { s with
      line := { s.line with edgeRef := some s.now, rejectRun := 0, lockRun := run } })
    ∧ (4 ≤ run → ∃ t, exec .lineSyncEdge s = .next t ∧ Only [.line, .relay, .capture, .notices] s t
      ∧ t.line.tracker = .locked ∧ t.line.period = c ∧ t.line.lockRun = 0 ∧ t.line.rejectRun = 0
      ∧ t.line.prevCandidate = none ∧ t.line.deadline = some (s.now + 819200) ∧ t.line.edgeRef = some s.now
      ∧ CycleStarts .edge s.now s t ∧ ¬ Holds t stripSource causeLineHoldover)

/-- The edge deadline's expiry in LOCKED enters HOLDOVER: the period and the cycle timing stay, the deadline stops,
both counters clear, and a pending window close closes (R5, R13, R17). The command before its moment, and in the other
states, changes nothing (log 2), HOLDOVER is entered before the close, whose record shows it (log 11), and the close
compares window indexes as 32-bit numbers (log 10): the model's choices. -/
def Obligations.EdgeDeadlineEntersHoldover : Prop :=
  ∀ s : State, Ready s →
    (∀ d, s.line.tracker = .locked → s.line.deadline = some d → d ≤ s.now →
      ∃ t, exec .edgeDeadlineExpiry s = .next t ∧ t.line.tracker = .holdover ∧ t.line.deadline = none
        ∧ t.line.lockRun = 0 ∧ t.line.rejectRun = 0 ∧ t.line.period = s.line.period
        ∧ t.line.cycleStart = s.line.cycleStart ∧ t.line.cycleNo = s.line.cycleNo
        ∧ t.line.nextSlot = s.line.nextSlot ∧ t.line.inFlight = s.line.inFlight
        ∧ Holds t stripSource causeLineHoldover
        ∧ (s.line.closePending = none → Only [.line, .notices] s t)
        ∧ (s.line.closePending ≠ none → WindowCloses s t))
    ∧ ((s.line.tracker ≠ .locked ∨ ∀ d, s.line.deadline = some d → s.now < d) →
      exec .edgeDeadlineExpiry s = .next s)

/-- A cycle runs P counts and the next one starts there: a flywheel start in LOCKED, a free-run start in SEARCHING
and HOLDOVER. The second cycle start since AIMING began makes a pulse due (R7, R55). Before its moment the command
changes nothing: the model's choice (log 2). -/
def Obligations.CycleFollowsCycle : Prop :=
  ∀ (s : State) (c : Instr) (k : CycleKind), Ready s →
    ((c = .flywheelStart ∧ k = .flywheel ∧ s.line.tracker = .locked)
      ∨ (c = .freeRunStart ∧ k = .freeRun ∧ s.line.tracker ≠ .locked)) →
    (s.line.cycleStart + s.line.period ≤ s.now →
      ∃ t, exec c s = .next t ∧ Only [.line, .relay, .capture, .notices] s t
        ∧ CycleStarts k (s.line.cycleStart + s.line.period) s t ∧ t.line.period = s.line.period
        ∧ t.line.tracker = s.line.tracker ∧ (∀ o, t.position o = s.position o)
        ∧ ∀ o p, s.op o = some p → p.stage = .aiming → p.deferred = false → 1 ≤ p.cyclesSeen →
          ∃ q, t.op o = some q ∧ q.pulseDue = true)
    ∧ (s.now < s.line.cycleStart + s.line.period → exec c s = .next s)

/-- Slot k starts k × P / 64 counts after its cycle; the slot in flight then has missed; and an operation in
AIMING whose pulse slot this is has its pulse due (R8, R9, R11, R55). Before its moment, and with no slot left, the
command changes nothing: the model's choice (log 2). -/
def Obligations.SlotStarts : Prop :=
  ∀ s : State, Ready s →
    (s.line.nextSlot < 64 → s.line.cycleStart + s.line.nextSlot * s.line.period / 64 ≤ s.now →
      ∃ t f, exec .slotStart s = .next t ∧ Only [.line, .relay, .capture, .notices] s t
        ∧ t.line.inFlight = some f ∧ f.slot.val = s.line.nextSlot
        ∧ f.startAt = s.line.cycleStart + s.line.nextSlot * s.line.period / 64
        ∧ t.line.nextSlot = s.line.nextSlot + 1 ∧ t.line.cycleStart = s.line.cycleStart
        ∧ MissedInFlight s t ∧ (∀ o, t.position o = s.position o)
        ∧ ∀ o p g, s.op o = some p → p.stage = .aiming → p.deferred = false → p.target = some g →
          p.advance ≤ 63 → s.line.nextSlot = (g.val + 64 - p.advance) % 64 →
          ∃ q, t.op o = some q ∧ q.pulseDue = true)
    ∧ ((64 ≤ s.line.nextSlot ∨ s.now < s.line.cycleStart + s.line.nextSlot * s.line.period / 64) →
      exec .slotStart s = .next s)

/-- A complete slot is added to every accumulator of the open window and clears the missed run; it enters every sense
history and qualifies the sense; it records the crossings that its samples show against those of the slot before.
Samples with no slot in flight are discarded (R9, R10, R11, R14, R15, R19, R20, R48). -/
def Obligations.CompleteSlotIsDelivered : Prop :=
  (∀ (s : State) (v : SampleSet) (sense : BitVec 48), Ready s →
    (s.line.inFlight = none → exec (.completeSlot v sense) s = .next s)
    ∧ (s.line.inFlight ≠ none → ∃ t, exec (.completeSlot v sense) s = .next t
      ∧ t.line.inFlight = none ∧ t.line.missedRun = 0 ∧ t.line.stale = false ∧ t.meter.n = s.meter.n + 1
      ∧ (∀ o, (t.ometer o).sII = (s.ometer o).sII + BitVec.ofInt 64 (currentSample v o ^ 2)
        ∧ (t.ometer o).sVI
          = (s.ometer o).sVI + BitVec.ofInt 64 (voltageSample v (phaseOf o) * currentSample v o))
      ∧ (∀ b, (t.bmeter b).sBB
        = (s.bmeter b).sBB + BitVec.ofInt 64 (((outletsOf b).map (currentSample v)).sum ^ 2))
      ∧ (∀ p, (t.pmeter p).sVV = (s.pmeter p).sVV + BitVec.ofInt 64 (voltageSample v p ^ 2)
        ∧ (t.pmeter p).sPP = (s.pmeter p).sPP + BitVec.ofInt 64
          (((allOutlets.filter fun o => phaseOf o == p).map (currentSample v)).sum ^ 2))
      ∧ t.meter.sNN = s.meter.sNN + BitVec.ofInt 64 ((allOutlets.map (currentSample v)).sum ^ 2)))
  ∧ (∀ (s : State) (v : SampleSet) (sense : BitVec 48) (f : InFlight), Ready s → s.line.inFlight = some f →
    ∃ t, exec (.completeSlot v sense) s = .next t ∧ t.line.prevSamples = some v
      ∧ (∀ o : OutletIx, t.relay[o].history = (sense.getLsbD o.val :: s.relay[o].history).take 64
        ∧ t.relay[o].sense =
          if t.relay[o].history.length = 64 ∧ 8 ≤ t.relay[o].history.count true then .present
          else if t.relay[o].history.length = 64 ∧ t.relay[o].history.count true = 0 then .absent
          else s.relay[o].sense)
      ∧ (s.line.prevSamples = none → t.line.current = s.line.current ∧ t.line.voltage = s.line.voltage)
      ∧ ∀ prev, s.line.prevSamples = some prev →
        (∀ o : OutletIx, t.line.current[o] =
          if currentSample prev o < 0 ∧ 0 ≤ currentSample v o then some ⟨f.slot, s.line.cycleNo⟩
          else s.line.current[o])
        ∧ ∀ p : PhaseIx,
          t.line.voltage[p].rising =
            (if s.line.present[p] = true ∧ voltageSample prev p < 0 ∧ 0 ≤ voltageSample v p then
              some ⟨f.slot, s.line.cycleNo⟩ else s.line.voltage[p].rising)
          ∧ t.line.voltage[p].falling =
            (if s.line.present[p] = true ∧ 0 ≤ voltageSample prev p ∧ voltageSample v p < 0 then
              some ⟨f.slot, s.line.cycleNo⟩ else s.line.voltage[p].falling))

/-- A tick in LOCKED counts the second, advances the per-second timers of the watch and the guard and the re-raise
timers of the taken causes, sets close pending, and finds what its counts make due (R12, R13, R134, R154 to R156,
R190). That what is due waits in a list for its own command is the model's choice (log 7), and so is that a tick
before its moment changes nothing (log 2). -/
def Obligations.TickInLocked : Prop :=
  ∀ s : State, Ready s →
    (s.now < s.line.nextTick → exec .tick s = .next s)
    ∧ (s.line.nextTick ≤ s.now → s.line.tracker = .locked →
      ∃ t, exec .tick s = .next t ∧ Only [.line, .guard, .watch, .notices, .tickDue] s t
        ∧ t = { ticked s with line := { (ticked s).line with closePending := some s.now } }
        ∧ t.line = { s.line with
          seconds := s.line.seconds + 1, nextTick := s.line.nextTick + 8192000, closePending := some s.now }
        ∧ (∀ b, t.gbranch b
          = { s.gbranch b with restoreHold := (s.gbranch b).restoreHold.map fun h => min 3600 (h + 1) })
        ∧ t.watch.kickWord = s.watch.kickWord ∧ t.guard.marks = s.guard.marks
        ∧ (∀ o, (t.owatch o).state = (s.owatch o).state ∧ (t.owatch o).attempts = (s.owatch o).attempts
          ∧ (t.owatch o).grace
            = (if (s.owatch o).state = .grace then min 1800 ((s.owatch o).grace + 1) else (s.owatch o).grace)
          ∧ (t.owatch o).healthy = (if (s.owatch o).state = .watching then min 86400 ((s.owatch o).healthy + 1)
            else (s.owatch o).healthy)
          ∧ (t.owatch o).quiet = (if (s.owatch o).state = .watching ∧ (s.owatch o).hold = .none then
            min 3600 ((s.owatch o).quiet + 1) else (s.owatch o).quiet)
          ∧ (TickEvent.graceEnd o ∈ t.tickDue ↔
            (s.owatch o).state = .grace ∧ (s.ocfg o).bootGrace ≤ (t.owatch o).grace)
          ∧ (TickEvent.recoverySpan o ∈ t.tickDue ↔
            (s.owatch o).state = .watching ∧ (s.ocfg o).recoverySpan ≤ (t.owatch o).healthy)
          ∧ (TickEvent.stall o ∈ t.tickDue ↔
            (s.owatch o).state = .watching ∧ (s.owatch o).hold = .none
              ∧ (s.ocfg o).quietLimit ≤ (t.owatch o).quiet))
        ∧ ∀ (src : SourceIx) (c : CauseBit),
          (t.notice src).pending = (s.notice src).pending ∧ (t.notice src).taken = (s.notice src).taken
          ∧ (t.notice src).held = (s.notice src).held
          ∧ (t.notice src).timers[c] = (if (s.notice src).taken.getLsbD c.val = true then
            min 3600 ((s.notice src).timers[c] + 1) else (s.notice src).timers[c])
          ∧ (TickEvent.reRaise src c ∈ t.tickDue ↔
            (s.notice src).taken.getLsbD c.val = true ∧ s.settings.strip.reRaise ≤ (t.notice src).timers[c]))

/-! ### Metering Engine -/

/-- The arithmetic of the overview: the integer root, rounding half up, rounding half away from zero, and
truncation toward zero. -/
def Obligations.ArithmeticConventions : Prop :=
  (∀ x : Nat, isqrt x * isqrt x ≤ x ∧ x < (isqrt x + 1) * (isqrt x + 1))
    ∧ (∀ a b : Nat, 0 < b →
      2 * b * roundDiv a b ≤ 2 * a + b ∧ 2 * a + b < 2 * b * (roundDiv a b + 1))
    ∧ (∀ (a : Int) (b : Nat), 0 < b → roundDivInt (-a) b = -roundDivInt a b
      ∧ (0 ≤ a → roundDivInt a b = roundDiv a.toNat b))
    ∧ ∀ (a : Int) (b : Nat), 0 < b → (truncDiv a b).natAbs = a.natAbs / b
      ∧ (0 ≤ a → 0 ≤ truncDiv a b) ∧ (a ≤ 0 → truncDiv a b ≤ 0)

/-- A window closes at the limit of a pending close, and at a tick outside LOCKED, which also counts its second: the
window index, the accumulators, the header of the close with the line as it stands, the publication, and the
recent-closings lists, from which the items of earlier windows retire before the close's dispatch pass is made (R12,
R13, R17, R21, R40, R74, R87, R88). That window indexes are compared as 32-bit numbers, without regard to their wrap,
is the model's choice (log 10), and so is that the timeout before its moment changes nothing (log 2). -/
def Obligations.WindowClosesAtLimitAndTick : Prop :=
  ∀ s : State, Ready s →
    (∀ d, s.line.closePending = some d → d + 182044 ≤ s.now →
      ∃ t, exec .closePendingTimeout s = .next t ∧ WindowCloses s t ∧ t.line.tracker = s.line.tracker
        ∧ t.line.seconds = s.line.seconds)
    ∧ ((∀ d, s.line.closePending = some d → s.now < d + 182044) → exec .closePendingTimeout s = .next s)
    ∧ (s.line.tracker ≠ .locked → s.line.nextTick ≤ s.now →
      ∃ t, exec .tick s = .next t ∧ WindowCloses s t ∧ t.line.tracker = s.line.tracker
        ∧ t.line.seconds = s.line.seconds + 1 ∧ t.line.nextTick = s.line.nextTick + 8192000
        ∧ t.meter.lastClose.seconds = s.line.seconds + 1)

/-- The reading stages of every close with samples, at an edge, at the entry into HOLDOVER, at a tick or at the limit:
of every outlet the mean values, roots and gains, creep, real power, apparent power and power factor (R23 to R29,
R37), and the branch, phase and strip readings (R33, R34, R35). -/
def Obligations.CloseComputesReadings : Prop :=
  (∀ (s : State) (c : Instr), Ready s → ClosesWindow c s → 0 < s.meter.n →
    ∃ t, exec c s = .next t ∧ ∀ o : OutletIx,
      let gi := (s.ocfg o).currentGain
      let gv := (s.pcfg (phaseOf o)).voltageGain
      let irms := roundDiv (isqrt ((s.ometer o).sII.toNat / s.meter.n) * gi) 32768
      let vrms := min 65535 (roundDiv (isqrt (4 * ((s.pmeter (phaseOf o)).sVV.toNat / s.meter.n)) * gv) 32768)
      let pmg := roundDivInt (truncDiv (s.ometer o).sVI.toInt s.meter.n * gi * gv) (2 ^ 30)
      (t.pmeter (phaseOf o)).vrms = vrms ∧ (t.ometer o).prevPower = (s.ometer o).power
        ∧ ((irms < s.settings.strip.creep ∨ irms = 0) →
          (t.ometer o).irms = 0 ∧ (t.ometer o).power = 0 ∧ (t.ometer o).apparent = 0
            ∧ (t.ometer o).factor = 0 ∧ (t.ometer o).creep = true ∧ (t.ometer o).reverse = false)
        ∧ (s.settings.strip.creep ≤ irms → irms ≠ 0 →
          (t.ometer o).irms = irms ∧ (t.ometer o).creep = false
            ∧ (t.ometer o).power = (if pmg < 0 then 0 else min 65535 (roundDiv pmg.toNat 5000))
            ∧ (t.ometer o).reverse = decide (pmg < 0)
            ∧ (t.ometer o).apparent = min 65535 (roundDiv (vrms * irms) 10000)
            ∧ (t.ometer o).factor = (if vrms * irms = 0 then 0 else
              min 1000 (roundDiv (2000 * (max pmg 0).toNat) (vrms * irms)))))
  ∧ (∀ (s : State) (c : Instr), Ready s → ClosesWindow c s → 0 < s.meter.n →
    ∃ t, exec c s = .next t
      ∧ (∀ b, (t.bmeter b).irms
          = roundDiv (isqrt ((s.bmeter b).sBB.toNat / s.meter.n) * (s.bcfg b).currentGain) 32768
        ∧ (t.bmeter b).power = ((outletsOf b).map fun o => (t.ometer o).power).sum)
      ∧ (∀ p, (t.pmeter p).irms = isqrt ((s.pmeter p).sPP.toNat / s.meter.n)
        ∧ (t.pmeter p).power
          = ((allBranches.filter fun b => phaseOfBranch b == p).map fun b => (t.bmeter b).power).sum)
      ∧ t.meter.neutral = isqrt (s.meter.sNN.toNat / s.meter.n)
      ∧ t.meter.totalPower = (allOutlets.map fun o => (t.ometer o).power).sum)

/-- The energy of every close with samples: the residue takes P times D and carries whole watt-hours, Wh saturates
with ENERGY_SATURATED, and a saturated or creeping outlet takes nothing (R26, R30, R31). -/
def Obligations.CloseAddsEnergy : Prop :=
  ∀ (s : State) (c : Instr), Ready s → ClosesWindow c s → 0 < s.meter.n →
    ∃ t, exec c s = .next t ∧ ∀ o : OutletIx,
      let e := (s.ometer o).residue + (t.ometer o).power * (s.now - s.line.windowOpened)
      (((t.ometer o).creep = true ∨ (s.ometer o).wh = 4294967295) →
        (t.ometer o).wh = (s.ometer o).wh ∧ (t.ometer o).residue = (s.ometer o).residue)
      ∧ ((t.ometer o).creep = false → (s.ometer o).wh ≠ 4294967295 →
        (t.ometer o).residue = e % 294912000000
        ∧ (t.ometer o).wh = min 4294967295 ((s.ometer o).wh + e / 294912000000)
        ∧ ((t.ometer o).wh = 4294967295 → Pends t (outletSource o) causeEnergySaturated))

/-- Every close without samples holds every reading and energy count, marks the records stale, and makes no overload
test (R22, R127). -/
def Obligations.StaleCloseHoldsReadings : Prop :=
  ∀ (s : State) (c : Instr), Ready s → ClosesWindow c s → s.meter.n = 0 →
    ∃ t, exec c s = .next t ∧ t.meter.lastClose.stale = true
      ∧ (∀ o, (t.ometer o).irms = (s.ometer o).irms ∧ (t.ometer o).power = (s.ometer o).power
        ∧ (t.ometer o).apparent = (s.ometer o).apparent ∧ (t.ometer o).factor = (s.ometer o).factor
        ∧ (t.ometer o).creep = (s.ometer o).creep ∧ (t.ometer o).reverse = (s.ometer o).reverse
        ∧ (t.ometer o).wh = (s.ometer o).wh ∧ (t.ometer o).residue = (s.ometer o).residue
        ∧ (t.ometer o).prevPower = (s.ometer o).prevPower ∧ (t.owatch o).hold = .stale)
      ∧ (∀ b, (t.bmeter b).irms = (s.bmeter b).irms ∧ (t.bmeter b).power = (s.bmeter b).power
        ∧ (t.gbranch b).state = (s.gbranch b).state ∧ (t.gbranch b).overloadRun = (s.gbranch b).overloadRun)
      ∧ (∀ p, (t.pmeter p).vrms = (s.pmeter p).vrms ∧ (t.pmeter p).irms = (s.pmeter p).irms
        ∧ (t.pmeter p).power = (s.pmeter p).power)
      ∧ t.meter.neutral = s.meter.neutral ∧ t.meter.totalPower = s.meter.totalPower

/-- At every close the limit conditions, presence, the line condition and converter health are handed over as the
close's readings and the applied limits give them, and the branch conditions as the branch states then stand: only a
change of a condition's record acts; and on a LIVE branch the positions are resolved, with the plans that this ends
(R11, R16, R17, R32, R35, R36, R49, R101, R125, R188). The close finds an edge's new cycle, the entry into HOLDOVER,
or what its tick declared made already: the model's choice (logs 7 and 11). -/
def Obligations.CloseHandsConditions : Prop :=
  (∀ (s : State) (c : Instr), Ready s → ClosesWindow c s →
    let u := beforeClose c s
    ∃ t, exec c s = .next t
      ∧ (∀ o, ConditionHanded (outletSource o) causeOvercurrent ((u.ocfg o).currentLimit < (t.ometer o).irms) u t)
      ∧ (∀ p, ConditionHanded (phaseSource p) causeUndervolt ((t.pmeter p).vrms < (u.pcfg p).undervoltage) u t
        ∧ ConditionHanded (phaseSource p) causeOvervolt ((u.pcfg p).overvoltage < (t.pmeter p).vrms) u t
        ∧ (t.line.present[p] = true ↔ (u.pcfg p).presence ≤ (t.pmeter p).vrms)
        ∧ ConditionHanded (phaseSource p) causePhaseAbsent (t.line.present[p] = false) u t)
      ∧ ConditionHanded stripSource causeNeutralHigh (u.settings.strip.neutralLimit < t.meter.neutral) u t
      ∧ ConditionHanded stripSource causeLineHoldover (t.line.tracker = .holdover) u t
      ∧ ConditionHanded stripSource causeConverterStale (t.line.stale = true) u t
      ∧ ∀ b, ConditionFollows (branchSource b) causeBranchOverload
          ((t.gbranch b).state = .overload ∨ (t.gbranch b).state = .shedding) u t
        ∧ ConditionFollows (branchSource b) causeOverloadUnresolved
          ((t.gbranch b).state = .shedding ∧ (t.gbranch b).shedPhase = .noCandidate) u t
        ∧ ConditionFollows (branchSource b) causeBranchDead ((t.gbranch b).state = .dead) u t)
  ∧ (∀ (s : State) (c : Instr), Ready s → ClosesWindow c s →
    let u := beforeClose c s
    ∃ t, exec c s = .next t
      ∧ ∀ o, u.op o = none →
        (u.branchStateOf o = .live → Resolved o u t)
        ∧ ((u.branchStateOf o = .dead ∨ u.branchStateOf o = .returning) → t.position o = u.position o)
        ∧ (u.branchStateOf o = .live → Unresolved (u.position o) → (u.marks o).shed = false →
          (u.marks o).release = false → (u.ocfg o).shedRank = 0 →
          ∀ pl, u.plan o = some pl → ResolvedPlan o pl u t))

/-- A publication writes all 58 records in source order, each under its sequence word, which is odd while the record's
bracket is open: a count of the reference clock makes one half-bracket, and PUBLICATION_COMPLETE makes those that are
left, then the writes that waited for their record, each under a bracket of its own (R39, R40). That the brackets take
one count for each half, and that several halves and deferred writes fall together at PUBLICATION_COMPLETE, is the
model's choice (log 5); with no publication in progress the command changes nothing (log 2). -/
def Obligations.PublicationWritesRecords : Prop :=
  ∀ s : State, Ready s →
    (s.records.finishBy = none → exec .publicationComplete s = .next s)
    ∧ (s.records.finishBy ≠ none → s.records.turn < 116 → s.pending = [] → dueCommands s = [] →
      ∃ t, step s = .next t ∧ Only [.now, .records] s t ∧ t.now = s.now + 1
        ∧ t.records.turn = s.records.turn + 1 ∧ t.records.finishBy = s.records.finishBy
        ∧ t.records.deferred = s.records.deferred
        ∧ RecordsPublished s.records.turn (s.records.turn + 1) [] s t)
    ∧ (s.records.finishBy ≠ none → ∃ t, exec .publicationComplete s = .next t ∧ Only [.records] s t
      ∧ t.records.finishBy = none ∧ t.records.turn = 0 ∧ t.records.deferred = []
      ∧ RecordsPublished s.records.turn 116 s.records.deferred s t)

/-- CLEAR_ENERGY and CLEAR_ALL_ENERGY set Wh and residue to 0, and leave every other reading; the record takes the 0 at
once, or after the publication while that is writing this very record; the service ends OK (R40, R41, R42, R179). When
the part's own publication has a record's bracket open is the model's choice (log 5). -/
def Obligations.EnergyClears : Prop :=
  ∀ s : State, Ready s →
    (∀ o : OutletIx, ∃ t, exec (.clearEnergy o) s = .next t ∧ Only [.meter, .records, .port] s t
      ∧ SameElse o s.meter.outlets t.meter.outlets
      ∧ t.ometer o = { s.ometer o with wh := 0, residue := 0 }
      ∧ t.port = { s.port with outletService := upd s.port.outletService o fun x =>
          { count := x.count + 1, result := .ok } }
      ∧ (¬ BracketOpen s o → t.records = { s.records with outlets := upd s.records.outlets o fun r =>
          { r with wh := 0, header := { r.header with seq := r.header.seq + 2 } } })
      ∧ (BracketOpen s o →
        t.records = { s.records with deferred := s.records.deferred ++ [.energyClear o] }))
    ∧ ∃ t, exec .clearAllEnergy s = .next t ∧ Only [.meter, .records, .port] s t
      ∧ (∀ o, t.ometer o = { s.ometer o with wh := 0, residue := 0 })
      ∧ t.port = { s.port with
          stripService := { count := s.port.stripService.count + 1, result := .ok } }
      ∧ (∀ o : OutletIx, ¬ BracketOpen s o → t.records.outlets[o] = { s.records.outlets[o] with
          wh := 0, header := { s.records.outlets[o].header with seq := s.records.outlets[o].header.seq + 2 } })
      ∧ (∀ o : OutletIx, BracketOpen s o → t.records.outlets[o] = s.records.outlets[o]
        ∧ t.records.deferred = s.records.deferred ++ [.energyClear o])
      ∧ ((∀ o, ¬ BracketOpen s o) → t.records.deferred = s.records.deferred)

/-! ### Relay Controller -/

/-- The pulse of an opening or of a second attempt starts at its moment and drives the coil of its direction for the
captured length (R55, R57). The first pulse of a closing starts and is recorded when the branch is LIVE, the strip
RUNNING and both spacings have passed; with a spacing outstanding it is deferred; otherwise the closing is withdrawn:
its plan is queued again with its age, ends CANCELLED with a held cancel, or as a waiting OFF looks at the position,
and an outlet whose plan ended on a DEAD branch with loss policy RELEASE is released, and a dispatch pass is made on
the freed reservation (R56, R57, R74, R85, R89, R100, R109, R110, R137). The command before its moment changes nothing
(log 2), and the later of the two values of a new admission deadline is found by the entry's age modulo 2 to the 32
(log 10): the model's choices. -/
def Obligations.PulseStartIsTested : Prop :=
  (∀ (s : State) (o : OutletIx) (p : Op), Ready s → s.op o = some p →
    (p.stage = .aiming → p.pulseDue = true → (p.direction = .open ∨ p.attempt = .second) →
      ∃ t, exec (.pulseStart o) s = .next t ∧ Only [.relay, .line, .capture] s t
        ∧ SameElse o s.relay t.relay ∧ t.position o = s.position o
        ∧ t.op o = some { p with
          stage := .pulsing, pulseDue := false, deferred := false, endsAt := s.now + p.pulseMs * 8192 }
        ∧ (∀ d, coilDriven t o d = true ↔ d = p.direction))
    ∧ ((p.stage ≠ .aiming ∨ p.pulseDue = false) → exec (.pulseStart o) s = .next s))
  ∧ (∀ (s : State) (o : OutletIx) (p : Op), Ready s → s.op o = some p → p.stage = .aiming →
    p.pulseDue = true → p.direction = .close → p.attempt = .first →
    (s.isLive (branchOf o) = true → s.port.running = true → branchSpacingPassed s (branchOf o) = true →
      stripSpacingPassed s = true →
      ∃ t, exec (.pulseStart o) s = .next t ∧ Only [.relay, .line, .capture, .sched] s t
        ∧ SameElse o s.relay t.relay ∧ t.position o = s.position o
        ∧ t.op o = some { p with
          stage := .pulsing, pulseDue := false, deferred := false, endsAt := s.now + p.pulseMs * 8192 }
        ∧ t.sched.lastStart = some s.now
        ∧ t.sched.holdOff = some (s.now + s.settings.strip.spacing * 8192)
        ∧ (t.sbranch (branchOf o)).lastStart = some s.now
        ∧ (t.sbranch (branchOf o)).holdOff = some (s.now + (s.bcfg (branchOf o)).spacing * 8192)
        ∧ (t.sbranch (branchOf o)).recent
          = ((s.sbranch (branchOf o)).recent.filter fun r => r.outlet != o)
            ++ [⟨o, s.line.windowIndex, expectedLoad s o⟩]
        ∧ t.sched.inAim = none ∧ t.sched.entries = s.sched.entries ∧ t.sched.retry = s.sched.retry
        ∧ SameElseBranch (branchOf o) s.sched.branches t.sched.branches)
    ∧ (s.isLive (branchOf o) = true → s.port.running = true →
      (branchSpacingPassed s (branchOf o) = false ∨ stripSpacingPassed s = false) →
      ∃ t, exec (.pulseStart o) s = .next t ∧ Only [.relay] s t ∧ SameElse o s.relay t.relay
        ∧ t.op o = some { p with deferred := true, pulseDue := false } ∧ t.position o = s.position o)
    ∧ ((s.isLive (branchOf o) = false ∨ s.port.running = false) →
      ∀ pl, s.plan o = some pl → pl.heldCancel = false → pl.waiting = false →
      ∃ t e, exec (.pulseStart o) s = .next t ∧ t.op o = none ∧ t.position o = s.position o
        ∧ t.entry o = some e ∧ e.direction = .close ∧ e.origin = pl.origin ∧ e.enteredAt = p.enteredAt
        ∧ t.plan o = some { pl with step := .queuedClose } ∧ t.sched.inAim ≠ some o)
    ∧ ((s.isLive (branchOf o) = false ∨ s.port.running = false) → s.entry o = none → o ∉ s.sched.retry →
      ∀ pl, s.plan o = some pl → ∃ t, exec (.pulseStart o) s = .next t ∧ ClosingWithdrawn o p pl s t
        ∧ PassLeft t))

/-- The pulse end releases the coil and the reservation, starts SETTLING, and makes a dispatch pass on the freed
reservation; after a warm reset during the pulse the operation ends RESET with its commanded position unverified, and
the outlet is released where R137 has it so, and the pass is made too (R52, R58, R68, R74). The command before its
moment changes nothing: the model's choice (log 2). -/
def Obligations.PulseEndSettles : Prop :=
  ∀ (s : State) (o : OutletIx) (p : Op), Ready s → s.op o = some p → s.entry o = none → o ∉ s.sched.retry →
    (p.stage = .pulsing → p.endsAt ≤ s.now → p.abandoned = false →
      ∃ t, exec (.pulseEnd o) s = .next t
        ∧ t.op o = some { p with stage := .settling, endsAt := p.endsAt + p.settleMs * 8192 }
        ∧ (∀ d, coilDriven t o d = false) ∧ (∀ x, t.position x = s.position x)
        ∧ t = dispatchPass { s with relay := upd s.relay o fun r => { r with
            op := some { p with stage := .settling, endsAt := p.endsAt + p.settleMs * 8192 } } })
    ∧ (p.stage = .pulsing → p.endsAt ≤ s.now → p.abandoned = true → ∀ pl, s.plan o = some pl →
      ∃ t, exec (.pulseEnd o) s = .next t ∧ t.position o = unverified p.direction ∧ OpPlanOver o .reset s t
        ∧ PassLeft t)
    ∧ ((p.stage ≠ .pulsing ∨ s.now < p.endsAt) → exec (.pulseEnd o) s = .next s)

/-- The settle end: VERIFYING begins on a LIVE branch; on any other the operation ends NOT_VERIFIED with the unverified
position, and its plan takes that result: a held cancel ends it CANCELLED, a waiting OFF looks at the position, a
CYCLE's opening dwells, any other plan ends, and the outlet is released where R137 has it so; the end of the SHED plan
of the shed outlet moves the shed phase to STEPPING (R59, R98, R99, R109, R110, R131, R137). The command before its
moment changes nothing: the model's choice (log 2). -/
def Obligations.SettleEndTestsBranch : Prop :=
  ∀ (s : State) (o : OutletIx) (p : Op), Ready s → s.op o = some p →
    (p.stage = .settling → p.endsAt ≤ s.now → s.isLive (branchOf o) = true →
      ∃ t, exec (.settleEnd o) s = .next t ∧ Only [.relay] s t ∧ SameElse o s.relay t.relay
        ∧ t.position o = s.position o
        ∧ t.op o = some { p with stage := .verifying, slotStarts := 0, samples := 0, asserted := 0, quietRun := 0 })
    ∧ (p.stage = .settling → p.endsAt ≤ s.now → s.isLive (branchOf o) = false →
      ∀ pl, s.plan o = some pl → s.entry o = none →
      ∃ t, exec (.settleEnd o) s = .next t ∧ OperationEnds o .notVerified (unverified p.direction) pl s t
        ∧ (pl.kind ≠ .cycle → (pl.heldCancel = true ∨ pl.waiting = false) → ShedPhaseFollows o pl.origin s t))
    ∧ ((p.stage ≠ .settling ∨ s.now < p.endsAt) → exec (.settleEnd o) s = .next s)

/-- The verification of an operation. A post-settle sample at COMPLETE_SLOT is counted; with a full history a fresh
PRESENT needs 8 asserted ones, a fresh ABSENT 64 samples and the last 64 unasserted; a verdict that the direction
expects ends the operation DONE with the verified position, another one fails the attempt. At the verify deadline, 256
slot starts after the settle end, fewer than 64 samples end NOT_VERIFIED and 64 or more fail the attempt. A first
attempt that fails enters RETRY_WAIT and a dispatch pass is made, which grants its second attempt when a reservation is
free (R74, R76); a second attempt leaves the fault position, the FAILED result and RELAY_FAULT.
Each end is reported to the plan, and an outlet whose plan ended is released where R137 has it so (R60 to R64, R98,
R99, R109, R110). Which slot starts are counted is DEDUCED (log
12); the deadline's command before its moment changes nothing: the model's choice (log 2). -/
def Obligations.VerifyDeadlineActs : Prop :=
  (∀ (s : State) (o : OutletIx) (p : Op), Ready s → s.op o = some p → s.entry o = none →
    (p.stage = .verifying → 256 ≤ p.slotStarts → p.samples < 64 →
      ∀ pl, s.plan o = some pl →
      ∃ t, exec (.verifyDeadline o) s = .next t ∧ OperationEnds o .notVerified (unverified p.direction) pl s t)
    ∧ (p.stage = .verifying → 256 ≤ p.slotStarts → 64 ≤ p.samples → p.attempt = .first →
      ∃ t q, exec (.verifyDeadline o) s = .next t ∧ t.op o = some q ∧ q.direction = p.direction
        ∧ t.position o = s.position o
        ∧ ((q.stage = .retryWait ∧ q.attempt = .first ∧ o ∈ t.sched.retry)
          ∨ (q.stage = .aiming ∧ q.attempt = .second))
        ∧ t = dispatchPass { s with
          relay := upd s.relay o fun r => { r with op := some { p with stage := .retryWait } }
          sched := { s.sched with retry := s.sched.retry ++ [o] } })
    ∧ (p.stage = .verifying → 256 ≤ p.slotStarts → 64 ≤ p.samples → p.attempt = .second →
      ∀ pl, s.plan o = some pl →
      ∃ t, exec (.verifyDeadline o) s = .next t ∧ Pends t (outletSource o) causeRelayFault
        ∧ (p.direction = .close → OperationEnds o .failedToClose .faultStuckOpen pl s t)
        ∧ (p.direction = .open → OperationEnds o .failedToOpen .faultStuckClosed pl s t))
    ∧ ((p.stage ≠ .verifying ∨ p.slotStarts < 256) → exec (.verifyDeadline o) s = .next s))
  ∧ (∀ (s : State) (v : SampleSet) (sense : BitVec 48) (f : InFlight), Ready s → s.line.inFlight = some f →
    ∃ t, exec (.completeSlot v sense) s = .next t ∧ ∀ (o : OutletIx) (p : Op), s.op o = some p →
      p.stage = .verifying → p.endsAt ≤ f.startAt → s.entry o = none → o ∉ s.sched.retry →
      ∀ pl, s.plan o = some pl →
      let bit := sense.getLsbD o.val
      let asserted := p.asserted + (if bit then 1 else 0)
      let quiet := if bit then 0 else p.quietRun + 1
      let isPresent := 8 ≤ asserted ∧ 63 ≤ s.relay[o].history.length
      let isAbsent := ¬ isPresent ∧ 64 ≤ p.samples + 1 ∧ 64 ≤ quiet
      (¬ isPresent → ¬ isAbsent → t.plan o = some pl ∧ t.position o = s.position o
          ∧ t.op o = some { p with samples := p.samples + 1, asserted := asserted, quietRun := quiet })
        ∧ (isPresent → p.direction = .close → OperationEnds o .done .closed pl s t)
        ∧ (isAbsent → p.direction = .open → OperationEnds o .done .open pl s t)
        ∧ ((isPresent ∧ p.direction = .open ∨ isAbsent ∧ p.direction = .close) → p.attempt = .first →
          t.position o = s.position o ∧ t.plan o = some pl ∧ PassLeft t
            ∧ ∃ q, t.op o = some q ∧ q.direction = p.direction
            ∧ ((q.stage = .retryWait ∧ q.attempt = .first ∧ o ∈ t.sched.retry)
              ∨ (q.stage = .aiming ∧ q.attempt = .second)))
        ∧ (isAbsent → p.direction = .close → p.attempt = .second → Pends t (outletSource o) causeRelayFault
          ∧ OperationEnds o .failedToClose .faultStuckOpen pl s t)
        ∧ (isPresent → p.direction = .open → p.attempt = .second → Pends t (outletSource o) causeRelayFault
          ∧ OperationEnds o .failedToOpen .faultStuckClosed pl s t))

/-! ### Switching Schedule -/

/-- A hold-off expiry that has come is taken: it is no longer pending, every deferred closing whose spacings have both
passed aims again, and the schedule makes a dispatch pass (R56, R74, R86). The command before its moment changes
nothing: the model's choice (log 2). -/
def Obligations.HoldOffExpiryReleases : Prop :=
  ∀ (s : State) (w : SpacingScope), Ready s →
    (∀ d, holdOffOf s w = some d → d ≤ s.now →
      ∃ t, exec (.holdOffExpiry w) s = .next t ∧ holdOffOf t w = none
        ∧ t = dispatchPass { s with
          sched := match w with
            | .strip => { s.sched with holdOff := none }
            | .branch b => { s.sched with branches := upd s.sched.branches b fun x => { x with holdOff := none } }
          relay := Vector.ofFn fun o : Fin 48 => { s.relay[o] with op := (s.op o).map (fun p =>
            if p.stage = .aiming ∧ p.direction = .close ∧ p.attempt = .first ∧ p.deferred = true
                ∧ branchSpacingPassed s (branchOf o) = true ∧ stripSpacingPassed s = true then
              { p with deferred := false, cyclesSeen := 0, pulseDue := decide (p.aim = .immediate) }
            else p) } }
        ∧ (∀ b, (t.sbranch b).lastStart = (s.sbranch b).lastStart ∧ (t.sbranch b).recent = (s.sbranch b).recent)
        ∧ t.sched.lastStart = s.sched.lastStart ∧ (∀ o, t.position o = s.position o)
        ∧ ∀ o p, s.op o = some p → p.stage = .aiming → p.direction = .close → p.attempt = .first →
          p.deferred = true → s.entry o = none → o ∉ s.sched.retry →
          branchSpacingPassed s (branchOf o) = true → stripSpacingPassed s = true →
          t.op o = some { p with deferred := false, cyclesSeen := 0, pulseDue := decide (p.aim = .immediate) })
    ∧ ((∀ d, holdOffOf s w = some d → s.now < d) → exec (.holdOffExpiry w) s = .next s)

/-- A closing whose admission deadline expires leaves the schedule and its plan ends LOAD_TIMEOUT, with the relay left
as it is, and the outlet is released where R137 has it so; an opening has no deadline, and a paused one does not
expire (R89, R102). Strip milliseconds are 32 bits and wrap (R12), and that they have reached a deadline that lies
less than half their range back is the model's choice (log 10); so is that the command before its moment changes
nothing (log 2). -/
def Obligations.AdmissionDeadlineEndsPlan : Prop :=
  ∀ (s : State) (o : OutletIx) (e : Entry) (pl : Plan), Ready s → s.entry o = some e → s.plan o = some pl →
    (e.direction = .close → e.pausedSince = none → (s.ms - e.deadline).toNat < 2147483648 →
      (s.op o = none ∨ ¬ Releases s o) →
      ∃ t, exec (.admissionDeadlineExpiry o) s = .next t ∧ PlanOver o .loadTimeout s t
        ∧ (∀ x, t.position x = s.position x)
        ∧ (¬ Releases s o → Only [.sched, .plans, .notices, .watch, .guard] s t
          ∧ SameElse o s.sched.entries t.sched.entries ∧ ∀ x, x ≠ o → t.plan x = s.plan x)
        ∧ (CoupledAt s o → pl.kind = .on ∨ pl.kind = .cycle ∧ pl.step = .queuedClose))
    ∧ ((e.direction = .open ∨ e.pausedSince ≠ none ∨ 2147483648 ≤ (s.ms - e.deadline).toNat) →
      exec (.admissionDeadlineExpiry o) s = .next s)

/-- What a dispatch pass may do to closings: a closing that leaves the schedule in a pass was allowed by the run
state, its branch, both spacings and admission; it is the only one; no retry and no opening was left behind it;
no eligible closing of any branch had a higher class; and its branch takes rank 0 and its pointer (R75, R76, R77,
R79, R81, R83, R84). -/
def Obligations.PassGrantsOnlyAllowedClosing : Prop :=
  ∀ (s : State) (o : OutletIx) (e : Entry), s.entry o = some e → e.direction = .close →
    (dispatchPass s).entry o = none →
    s.port.running = true ∧ s.sched.inAim = none ∧ s.isLive (branchOf o) = true
      ∧ branchSpacingPassed s (branchOf o) = true ∧ stripSpacingPassed s = true
      ∧ (s.bmeter (branchOf o)).irms + ((s.sbranch (branchOf o)).recent.map RecentClosing.load).sum
          + expectedLoad s o ≤ (s.bcfg (branchOf o)).rated * (s.bcfg (branchOf o)).admission / 100
      ∧ (dispatchPass s).sched.inAim = some o ∧ (dispatchPass s).sched.retry = []
      ∧ (∀ x f, x ≠ o → s.entry x = some f → f.direction = .close → ∃ g, (dispatchPass s).entry x = some g)
      ∧ (∀ x f, s.entry x = some f → f.direction = .open → (dispatchPass s).entry x = none)
      ∧ (∀ x f, s.entry x = some f → f.direction = .close → s.isLive (branchOf x) = true →
        branchSpacingPassed s (branchOf x) = true → admissionPasses s x = true → e.klass ≤ f.klass)
      ∧ ((dispatchPass s).sbranch (branchOf o)).rank = 0 ∧ ((dispatchPass s).sbranch (branchOf o)).pointer = o
      ∧ (∀ b, b ≠ branchOf o → (s.sbranch (branchOf o)).rank < (s.sbranch b).rank →
        (dispatchPass s).sbranch b = s.sbranch b)

/-- A dispatch pass grants what is free. The retries at the head of their queue aim again as attempt 2, one for each
free reservation (R62, R76); while RUNNING the openings follow, the one that has waited longest first, with their
learned load (R38, R77); then the closing that the rotation, the class and the strip rank choose, when no closing is
in aim and both spacings have passed (R79 to R84). Each takes its context, its aim and its plan's step (R50, R53 to
R55, R72, R145). An entry left waiting takes the wait reason of R88: STOPPED; BRANCH_DEAD or LOAD off a LIVE branch;
COIL without a reservation; SPACING; or LOAD. With a reservation left free no retry waits, and while RUNNING no
opening and no closing that may be chosen. With no free reservation the pass grants nothing. It leaves every relay
position, and every operation with no claim on it, as it was (R73, R75, R77, R88). Four points are the model's own:
which opening has waited longest compares the milliseconds modulo 2 to the 32, on which the manual is silent (log 10);
a learned load waits for its record where the publication has that record's bracket open (log 5); R145 means the first
attempt (DEDUCED, log 22); and a RELEASE opening aims as any other off a DEAD branch (log 24). -/
def Obligations.PassLeavesTheRest : Prop :=
  (∀ s : State, Only [.sched, .relay, .plans, .meter, .records] s (dispatchPass s)
    ∧ (∀ o, (dispatchPass s).position o = s.position o)
    ∧ (∀ o, s.entry o = none → (dispatchPass s).entry o = none)
    ∧ (∀ o, s.entry o = none → o ∉ s.sched.retry → (dispatchPass s).op o = s.op o)
    ∧ (s.port.running = false → ∀ o e, s.entry o = some e →
      (dispatchPass s).entry o = some { e with wait := .stopped })
    ∧ (s.port.running = true → ∀ o e, s.entry o = some e → e.direction = .close →
      (s.branchStateOf o = .dead → (dispatchPass s).entry o = some { e with wait := .branchDead })
      ∧ (s.branchStateOf o ≠ .dead → s.branchStateOf o ≠ .live →
        (dispatchPass s).entry o = some { e with wait := .load })))
  ∧ (∀ s : State,
    (∀ o, o ∈ s.sched.retry.take (4 - reservationsHeld s) → ∀ p, s.op o = some p → s.entry o = none →
      ∃ q, (dispatchPass s).op o = some q ∧ Aims s o q
        ∧ q = { p with
          attempt := .second, stage := .aiming, aim := q.aim, target := q.target, cyclesSeen := 0
          pulseDue := q.pulseDue, deferred := false }
        ∧ (dispatchPass s).relay[o].status = { direction := some p.direction, origin := some p.origin
                                               attempt := some .second, aim := some q.aim, startSec := p.startSec })
    ∧ (∀ o e, s.entry o = some e → e.direction = .open → s.port.running = true →
      reservationsHeld s + s.sched.retry.length + (openingsBefore s o e.enteredAt).length < 4 →
      Dispatched o .open e.origin e.enteredAt s (dispatchPass s)
        ∧ (dispatchPass s).plan o = (s.plan o).map fun p => { p with step := .opening })
    ∧ (∀ o e, s.entry o = some e → e.direction = .close → s.port.running = true → s.sched.inAim = none →
      stripSpacingPassed s = true → WinsPass s o e →
      reservationsHeld s + s.sched.retry.length + (openingsWaiting s).length < 4 →
      Dispatched o .close e.origin e.enteredAt s (dispatchPass s) ∧ (dispatchPass s).sched.inAim = some o
        ∧ (dispatchPass s).plan o = (s.plan o).map fun p => { p with step := .closing }))
  ∧ (∀ s : State, PassLeft (dispatchPass s))
  ∧ (∀ s : State, s.port.running = true →
    (∀ o e, (dispatchPass s).entry o = some e → e.direction = .open → e.wait = .coil)
    ∧ (∀ o e, s.entry o = some e → e.direction = .close → s.isLive (branchOf o) = true →
      reservationsHeld s + s.sched.retry.length + (openingsWaiting s).length < 4 →
      ∀ g, (dispatchPass s).entry o = some g → g = { e with
        wait := if (dispatchPass s).sched.inAim ≠ none ∨ stripSpacingPassed s = false
            ∨ branchSpacingPassed s (branchOf o) = false then .spacing
          else if MayBeChosen s o then .spacing else .load })
    ∧ (4 ≤ reservationsHeld s → Only [.sched] s (dispatchPass s)
      ∧ (dispatchPass s).sched.retry = s.sched.retry ∧ (dispatchPass s).sched.inAim = s.sched.inAim
      ∧ ∀ o e, s.entry o = some e → (e.direction = .open ∨ s.isLive (branchOf o) = true) →
        (dispatchPass s).entry o = some { e with wait := .coil }))

/-! ### Plan Unit -/

/-- A posting refused on a slot that is not ACTIVE ends the slot with the refusal and raises OP_REFUSED; no plan
is created, OP_DONE is not raised, and the watch and the guard receive nothing (R107). -/
def Obligations.IdleRefusalEndsSlot : Prop :=
  ∀ (s : State) (o : OutletIx) (c : Instr) (kind : Word) (code : ResultCode), Ready s → s.plan o = none →
    ((c = .postingOn o ∧ kind = 1 ∧ code = .fault
        ∧ (s.position o = .faultStuckOpen ∨ s.position o = .faultStuckClosed))
      ∨ (c = .postingOff o ∧ kind = 2 ∧ code = .fault ∧ s.position o = .faultStuckClosed)
      ∨ (c = .postingCycle o ∧ kind = 3 ∧ code = .fault
        ∧ (s.position o = .faultStuckOpen ∨ s.position o = .faultStuckClosed))
      ∨ (c = .postingCycle o ∧ kind = 3 ∧ code = .notOn
        ∧ (s.position o = .open ∨ s.position o = .openUnverified ∨ s.position o = .unknown))
      ∨ (c = .postingCancel o ∧ kind = 4 ∧ code = .nothingToCancel)
      ∨ (c = .postingUnknownKind o kind ∧ WellFormed c = true ∧ code = .badKind)) →
    ∃ t, exec c s = .next t ∧ Only [.plans, .notices] s t ∧ SameElse o s.plans.outlets t.plans.outlets
      ∧ t.plans.group = s.plans.group ∧ t.plans.policyDone = s.plans.policyDone ∧ t.plan o = none
      ∧ t.slot o = { used := true, origin := some .posted, kind := kind, result := code
                     tag := (Memory.word s.xm (outletBase o + 0x42)).extractLsb' 0 8
                     endSec := s.line.seconds, replaced := none, refusal := code
                     refusalTag := (Memory.word s.xm (outletBase o + 0x42)).extractLsb' 0 8 }
      ∧ slotStatus t o = .ended ∧ Pends t (outletSource o) causeOpRefused
      ∧ (Pends t (outletSource o) causeOpDone ↔ Pends s (outletSource o) causeOpDone)
      ∧ ∀ src, src ≠ outletSource o → t.notice src = s.notice src

/-- An ON, a CYCLE or an unknown kind posted to an ACTIVE slot is refused into last refusal alone, with OP_REFUSED; an
OFF and a CANCEL are taken, and write no refusal (R108). -/
def Obligations.ActiveRefusalWritesLastRefusal : Prop :=
  (∀ (s : State) (o : OutletIx) (c : Instr) (pl : Plan) (code : ResultCode), Ready s → s.plan o = some pl →
    (((c = .postingOn o ∨ c = .postingCycle o) ∧ code = .busy)
      ∨ (∃ v, c = .postingUnknownKind o v ∧ WellFormed c = true ∧ code = .badKind)) →
    ∃ t, exec c s = .next t ∧ Only [.plans, .notices] s t ∧ SameElse o s.plans.outlets t.plans.outlets
      ∧ t.plans.group = s.plans.group ∧ t.plan o = some pl
      ∧ t.slot o = { s.slot o with
        refusal := code, refusalTag := (Memory.word s.xm (outletBase o + 0x42)).extractLsb' 0 8 }
      ∧ Pends t (outletSource o) causeOpRefused ∧ ∀ src, src ≠ outletSource o → t.notice src = s.notice src)
  ∧ (∀ (s : State) (o : OutletIx) (c : Instr) (pl : Plan), Ready s → s.plan o = some pl →
    (c = .postingOff o ∨ c = .postingCancel o) →
    ∃ t, exec c s = .next t ∧ (t.slot o).refusal = (s.slot o).refusal
      ∧ (t.slot o).refusalTag = (s.slot o).refusalTag
      ∧ (Pends t (outletSource o) causeOpRefused ↔ Pends s (outletSource o) causeOpRefused))

/-- A posting that R106 takes: an ON on a closed outlet and an OFF on an open one create a plan and end it at once,
DONE_NO_CHANGE, after which the outlet is released where R137 has it so; any other creates its plan in its queued
step, whose entry joins, a closing with its class and its admission deadline, and a pass is made, which may dispatch
it, and does dispatch an opening that finds a free reservation and no other claim. Both clear the outlet's marks (R71,
R76, R77, R89, R97, R99, R106, R112, R137). That the learned load of a dispatch waits for its record where the part's
publication has that record's bracket open (log 5), and that the later of the two values of a new admission deadline
is found by the entry's age modulo 2 to the 32 (log 10), is the model's choice. -/
def Obligations.PostingTaken : Prop :=
  (∀ (s : State) (o : OutletIx) (c : Instr) (kind : Word), Ready s → s.plan o = none → s.entry o = none →
    (s.op o = none ∨ ¬ Releases s o) →
    ((c = .postingOn o ∧ kind = 1
        ∧ (s.position o = .closed ∨ s.position o = .closedUnverified))
      ∨ (c = .postingOff o ∧ kind = 2 ∧ (s.position o = .open ∨ s.position o = .openUnverified))) →
    ∃ t, exec c s = .next t ∧ PlanOver o .doneNoChange s t ∧ (t.marks o).shed = false
      ∧ (∀ x, t.position x = s.position x)
      ∧ (¬ Releases s o → Only [.plans, .notices, .watch, .guard] s t
        ∧ (t.slot o).origin = some .posted ∧ (t.slot o).kind = kind ∧ (t.slot o).replaced = none
        ∧ (t.slot o).tag = (Memory.word s.xm (outletBase o + 0x42)).extractLsb' 0 8
        ∧ (t.marks o).release = false ∧ (∀ x, x ≠ o → t.plan x = s.plan x)))
  ∧ (∀ (s : State) (o : OutletIx) (c : Instr) (k : PlanKind) (d : Direction), Ready s → s.plan o = none →
    s.op o = none → o ∉ s.sched.retry →
    ((c = .postingOn o ∧ k = .on ∧ d = .close
        ∧ (s.position o = .open ∨ s.position o = .openUnverified ∨ s.position o = .unknown))
      ∨ (c = .postingOff o ∧ k = .off ∧ d = .open ∧ (s.position o = .closed ∨ s.position o = .closedUnverified
        ∨ s.position o = .unknown ∨ s.position o = .faultStuckOpen))
      ∨ (c = .postingCycle o ∧ k = .cycle ∧ d = .open
        ∧ (s.position o = .closed ∨ s.position o = .closedUnverified))) →
    ∃ t p, exec c s = .next t ∧ t.plan o = some p ∧ p.kind = k ∧ p.origin = .posted ∧ p.heldCancel = false
      ∧ p.waiting = false ∧ p.groupMember = false
      ∧ p.dwell = (if Memory.word s.xm (outletBase o + 0x44) = 0 then (s.ocfg o).offDwell
        else min 600 (Memory.word s.xm (outletBase o + 0x44)).toNat)
      ∧ p.tag = (Memory.word s.xm (outletBase o + 0x42)).extractLsb' 0 8 ∧ p.replaced = none
      ∧ Queued o d .posted s.ms t ∧ PassLeft t
      ∧ (s.port.running = false → ∃ e, t.entry o = some e ∧ e.wait = .stopped
        ∧ (d = .close → e.pausedSince = some s.ms ∧ e.klass = (s.ocfg o).priority))
      ∧ (s.port.running = true → d = .open → s.sched.retry = [] → reservationsHeld s < 4 →
        (∀ x f, s.entry x = some f → x ≠ o → f.direction = .close) → Dispatched o .open .posted s.ms s t)
      ∧ slotStatus t o = .active ∧ (t.slot o).origin = some .posted ∧ (t.slot o).kind = kindWord k
      ∧ (t.slot o).result = .none ∧ t.marks o = { shed := false, release := false }
      ∧ t.position o = s.position o ∧ (∀ x, (t.plan x).isSome = (s.plan x).isSome ∨ x = o))

/-- An OFF posted to an ACTIVE slot supersedes its plan: a new OFF waits for the operation in flight, or looks at
the position at once and ends DONE_NO_CHANGE, ends FAILED_TO_OPEN, or queues its opening (R110). The old plan's end,
SUPERSEDED, moves the shed phase where it was the SHED plan of the shed outlet (R131, R133). That the learned load of a
dispatch waits for its record where the part's publication has that record's bracket open is the model's choice (log
5). -/
def Obligations.OffSupersedesPlan : Prop :=
  ∀ (s : State) (o : OutletIx) (old : Plan), Ready s → s.plan o = some old →
    (∀ q, s.op o = some q → ∃ t p, exec (.postingOff o) s = .next t ∧ t.plan o = some p ∧ p.kind = .off
      ∧ p.origin = .posted ∧ p.waiting = true ∧ p.heldCancel = false ∧ p.groupMember = false
      ∧ p.step = operationStep q.direction ∧ p.replaced = some (old.origin, old.kind) ∧ t.entry o = none
      ∧ t.op o = s.op o ∧ slotStatus t o = .active ∧ (t.slot o).result = .none
      ∧ (t.slot o).replaced = some (old.origin, old.kind)
      ∧ t.marks o = { shed := false, release := false })
    ∧ (s.op o = none → (s.position o = .open ∨ s.position o = .openUnverified) →
      ∃ t, exec (.postingOff o) s = .next t ∧ PlanEnds o .doneNoChange s t
        ∧ (t.slot o).replaced = some (old.origin, old.kind))
    ∧ (s.op o = none → s.position o = .faultStuckClosed →
      ∃ t, exec (.postingOff o) s = .next t ∧ PlanEnds o .failedToOpen s t
        ∧ (t.slot o).replaced = some (old.origin, old.kind))
    ∧ (s.op o = none → o ∉ s.sched.retry → (s.position o = .closed ∨ s.position o = .closedUnverified
        ∨ s.position o = .unknown ∨ s.position o = .faultStuckOpen) →
      ∃ t p, exec (.postingOff o) s = .next t ∧ Queued o .open .posted s.ms t ∧ t.plan o = some p
        ∧ p.kind = .off ∧ p.replaced = some (old.origin, old.kind) ∧ p.waiting = false
        ∧ (s.port.running = true → s.sched.retry = [] → reservationsHeld s < 4 →
          (∀ x f, s.entry x = some f → x ≠ o → f.direction = .close) → Dispatched o .open .posted s.ms s t))
    ∧ (old.origin ≠ .posted → ∃ t, exec (.postingOff o) s = .next t ∧ ShedPhaseFollows o old.origin s t)

/-- A CANCEL on an ACTIVE slot ends a plan in a queued step or in DWELL at once, CANCELLED, after which the outlet is
released where R137 has it so and the shed phase moves where it was the SHED plan of the shed outlet, and is held by a
plan whose operation is in flight (R109, R131, R133). -/
def Obligations.CancelActsOnPlan : Prop :=
  ∀ (s : State) (o : OutletIx) (pl : Plan), Ready s → s.plan o = some pl →
    ((pl.step = .queuedOpen ∨ pl.step = .queuedClose ∨ (pl.step = .dwell ∧ s.entry o = none)) →
      (s.op o = none ∨ ¬ Releases s o) →
      ∃ t, exec (.postingCancel o) s = .next t ∧ PlanOver o .cancelled s t ∧ ShedPhaseFollows o pl.origin s t
        ∧ (¬ Releases s o → Only [.sched, .plans, .notices, .watch, .guard] s t
          ∧ SameElse o s.sched.entries t.sched.entries))
    ∧ ((pl.step = .opening ∨ pl.step = .closing) →
      ∃ t, exec (.postingCancel o) s = .next t ∧ Only [.plans] s t
        ∧ SameElse o s.plans.outlets t.plans.outlets ∧ t.plan o = some { pl with heldCancel := true }
        ∧ t.slot o = s.slot o ∧ t.plans.group = s.plans.group)

/-- A dwell that runs out queues the closing of its CYCLE, which joins with its class and its admission deadline and
has a dispatch pass made, unless the position is closed: then the plan ends NOT_VERIFIED, and the outlet is released
where R137 has it so (R71, R74, R89, R99). The command before its moment changes nothing (log 2), and the later of the
two values of a new admission deadline is found by the entry's age modulo 2 to the 32 (log 10): the model's
choices. -/
def Obligations.DwellRunsOut : Prop :=
  ∀ (s : State) (o : OutletIx) (pl : Plan), Ready s → s.plan o = some pl → s.entry o = none → s.op o = none →
    o ∉ s.sched.retry →
    (pl.step = .dwell → pl.dwellEnd ≤ s.now → isClosed (s.position o) = false →
      ∃ t, exec (.dwellExpiry o) s = .next t ∧ Queued o .close pl.origin s.ms t ∧ PassLeft t
        ∧ t.position o = s.position o)
    ∧ (pl.step = .dwell → pl.dwellEnd ≤ s.now → isClosed (s.position o) = true →
      ∃ t, exec (.dwellExpiry o) s = .next t ∧ PlanOver o .notVerified s t
        ∧ (¬ Releases s o → Only [.plans, .notices, .watch, .guard] s t))
    ∧ ((pl.step ≠ .dwell ∨ s.now < pl.dwellEnd) → exec (.dwellExpiry o) s = .next s)

/-- A group posting on a strip slot that is not ACTIVE judges every captured member: one that is refused has the
refusal in its slot; one that is taken gets a GROUP plan with tag 0, the group's dwell override and its member flag,
its outlet loses its marks, and it is queued, a closing with its class and its admission deadline and with a dispatch
pass, or ends at once; no other outlet receives a plan. Busy, refused and taken add up to requested, and those that
end at once are counted as done; the group ends at the posting when every taken member has ended. After it the ends of
member plans are counted: DONE at the verdict, DONE_NO_CHANGE and NOT_VERIFIED as done, by a resolution at a return or
at any close, a superseding look, a settle end, a verify deadline or a dwell; CANCELLED and SUPERSEDED as cancelled;
LOAD_TIMEOUT and the FAILED results as failed. The group ends GROUP_DONE with the last taken member, and the end of a
plan that is no member counts nothing (R71, R89, R99, R101, R106, R107, R110, R112 to R116, R137). That an admission
deadline is reached when it lies less than 2 to the 31 milliseconds back modulo 2 to the 32, and that the later of the
two values of a new admission deadline is found by the entry's age modulo 2 to the 32, is the model's choice (log 10),
and so is that an edge's new cycle, the entry into HOLDOVER or what a tick declared comes before a close (logs 7 and
11). -/
def Obligations.GroupPostingCounts : Prop :=
  (∀ (s : State) (c : Instr) (k : PlanKind), Ready s → s.plans.group.status ≠ .active →
    ((c = .groupOn ∧ k = .on) ∨ (c = .groupOff ∧ k = .off) ∨ (c = .groupCycle ∧ k = .cycle)) →
    ∃ t, exec c s = .next t ∧ t.plans.group.kind = kindWord k ∧ t.plans.group.members = groupMembers s
      ∧ t.plans.group.requested = (allOutlets.filter fun o => (groupMembers s).getLsbD o.val).length
      ∧ t.plans.group.busy
        = (allOutlets.filter fun o => (groupMembers s).getLsbD o.val && (s.plan o).isSome).length
      ∧ t.plans.group.refused = (allOutlets.filter fun o => (groupMembers s).getLsbD o.val
        && (s.plan o).isNone && (match judge k (s.position o) with | .refuse _ => true | _ => false)).length
      ∧ t.plans.group.requested = t.plans.group.taken + t.plans.group.busy + t.plans.group.refused
      ∧ t.plans.group.done = (allOutlets.filter fun o => (groupMembers s).getLsbD o.val && (s.plan o).isNone
        && (k == .on && (s.position o == .closed || s.position o == .closedUnverified)
          || k == .off && (s.position o == .open || s.position o == .openUnverified))).length
      ∧ t.plans.group.failed = 0 ∧ t.plans.group.cancelled = 0
      ∧ (t.plans.group.taken = t.plans.group.done →
        t.plans.group.status = .ended ∧ t.plans.group.result = .groupDone
          ∧ t.plans.group.endSec = s.line.seconds ∧ Pends t stripSource causeGroupDone)
      ∧ (t.plans.group.taken ≠ t.plans.group.done →
        t.plans.group.status = .active ∧ t.plans.group.result = .none)
      ∧ (∀ o, (groupMembers s).getLsbD o.val = true → (s.plan o).isSome = true →
        t.slot o = s.slot o ∧ (t.plan o).isSome = true)
      ∧ (∀ o, (groupMembers s).getLsbD o.val = true → s.plan o = none → s.entry o = none → MemberJudged k o s t)
      ∧ (∀ o, (groupMembers s).getLsbD o.val = false →
        (t.plan o).isSome = (s.plan o).isSome ∧ t.slot o = s.slot o ∧ t.marks o = s.marks o)
      ∧ (∀ o, s.entry o = none → t.entry o ≠ none → PassLeft t)
      ∧ (∀ o, t.position o = s.position o))
  ∧ (∀ (s : State) (o : OutletIx) (pl : Plan), Ready s → s.plans.group.status = .active → s.plan o = some pl →
    (pl.groupMember = true →
      ((pl.step = .queuedOpen ∨ pl.step = .queuedClose ∨ pl.step = .dwell) →
        ∃ t, exec (.postingCancel o) s = .next t ∧ GroupCounts 0 0 1 s t)
      ∧ (∃ t, exec (.postingOff o) s = .next t ∧ GroupCounts 0 0 1 s t)
      ∧ (∀ e, s.entry o = some e → e.direction = .close → e.pausedSince = none →
        (s.ms - e.deadline).toNat < 2147483648 →
        ∃ t, exec (.admissionDeadlineExpiry o) s = .next t ∧ GroupCounts 0 1 0 s t)
      ∧ (pl.step = .dwell → pl.dwellEnd ≤ s.now → isClosed (s.position o) = true →
        ∃ t, exec (.dwellExpiry o) s = .next t ∧ GroupCounts 1 0 0 s t)
      ∧ (∀ p, s.op o = some p → pl.heldCancel = false → pl.waiting = false →
        (p.stage = .settling → p.endsAt ≤ s.now → s.isLive (branchOf o) = false →
          (pl.kind ≠ .cycle ∨ pl.step ≠ .opening) →
          ∃ t, exec (.settleEnd o) s = .next t ∧ GroupCounts 1 0 0 s t)
        ∧ (p.stage = .verifying → 256 ≤ p.slotStarts → p.samples < 64 → (pl.kind ≠ .cycle ∨ pl.step ≠ .opening) →
          ∃ t, exec (.verifyDeadline o) s = .next t ∧ GroupCounts 1 0 0 s t)
        ∧ (p.stage = .verifying → 256 ≤ p.slotStarts → 64 ≤ p.samples → p.attempt = .second →
          ∃ t, exec (.verifyDeadline o) s = .next t ∧ GroupCounts 0 1 0 s t))
      ∧ (∀ p, s.op o = some p → p.stage = .settling → p.endsAt ≤ s.now → s.isLive (branchOf o) = false →
        (pl.heldCancel = true → ∃ t, exec (.settleEnd o) s = .next t ∧ GroupCounts 0 0 1 s t)
        ∧ (pl.heldCancel = false → pl.waiting = true → p.direction = .open →
          ∃ t, exec (.settleEnd o) s = .next t ∧ GroupCounts 1 0 0 s t))
      ∧ (∀ p f, s.op o = some p → s.line.inFlight = some f → p.stage = .verifying → p.endsAt ≤ f.startAt →
        (∀ x q, s.op x = some q → x ≠ o → q.stage ≠ .verifying) → pl.heldCancel = false → pl.waiting = false →
        (pl.kind ≠ .cycle ∨ pl.step = .closing) → ∀ (v : SampleSet) (sense : BitVec 48),
        let asserted := p.asserted + (if sense.getLsbD o.val then 1 else 0)
        ((p.direction = .close ∧ 8 ≤ asserted ∧ 63 ≤ s.relay[o].history.length)
          ∨ (p.direction = .open ∧ asserted < 8 ∧ 63 ≤ p.samples ∧ 63 ≤ p.quietRun ∧ sense.getLsbD o.val = false)) →
        ∃ t, exec (.completeSlot v sense) s = .next t ∧ GroupCounts 1 0 0 s t))
    ∧ (pl.groupMember = false →
      s.plans.group.taken ≠ s.plans.group.done + s.plans.group.failed + s.plans.group.cancelled →
      (∃ t, exec (.postingCancel o) s = .next t ∧ t.plans.group = s.plans.group)
        ∧ ∃ t, exec (.postingOff o) s = .next t ∧ t.plans.group = s.plans.group))
  ∧ (∀ s : State, Ready s → s.plans.group.status = .active →
    (∀ b d, (s.gbranch b).returnFrom = some d → d + (s.bcfg b).returnDelay * 8192000 ≤ s.now →
      let n := (allOutlets.filter fun o => branchOf o == b && endsResolved s o).length
      0 < n → s.plans.group.done + s.plans.group.failed + s.plans.group.cancelled + n ≤ s.plans.group.taken →
      ∃ t, exec (.returnTimerExpiry b) s = .next t ∧ GroupCounts n 0 0 s t)
    ∧ (∀ c : Instr, ClosesWindow c s → s.meter.n = 0 →
      let u := beforeClose c s
      let n := (allOutlets.filter fun o => u.isLive (branchOf o) && endsResolved u o).length
      0 < n → s.plans.group.done + s.plans.group.failed + s.plans.group.cancelled + n ≤ s.plans.group.taken →
      ∃ t, exec c s = .next t ∧ GroupCounts n 0 0 u t))

/-- Group postings that are not taken: BUSY and BAD_KIND on an ACTIVE strip slot go into last refusal alone; a CANCEL
or an unknown kind on any other ends the slot; each raises OP_REFUSED of the strip (R113). A CANCEL of an ACTIVE strip
slot reaches every member plan and no other: in a queued step or in DWELL it ends CANCELLED and is counted, with an
operation in flight it holds the cancel; an outlet whose plan ended is released where R137 has it so; the group ends
GROUP_DONE when every taken member has ended (R115 to R117). -/
def Obligations.GroupCancelAndRefusals : Prop :=
  (∀ (s : State) (c : Instr) (code : ResultCode), Ready s →
    (s.plans.group.status = .active →
      (((c = .groupOn ∨ c = .groupOff ∨ c = .groupCycle) ∧ code = .busy)
        ∨ (∃ v, c = .groupUnknownKind v ∧ WellFormed c = true ∧ code = .badKind)) →
      ∃ t, exec c s = .next t ∧ Only [.plans, .notices] s t ∧ t.plans.outlets = s.plans.outlets
        ∧ t.plans.group = { s.plans.group with refusal := code } ∧ Pends t stripSource causeStripRefused
        ∧ ∀ src, src ≠ stripSource → t.notice src = s.notice src)
    ∧ ∀ kind : Word, s.plans.group.status ≠ .active →
      ((c = .groupCancel ∧ kind = 4 ∧ code = .nothingToCancel)
        ∨ (c = .groupUnknownKind kind ∧ WellFormed c = true ∧ code = .badKind)) →
      ∃ t, exec c s = .next t ∧ Only [.plans, .notices] s t ∧ t.plans.outlets = s.plans.outlets
        ∧ t.plans.group = { s.plans.group with
          status := .ended, kind := kind, result := code, requested := 0, taken := 0, busy := 0, refused := 0
          done := 0, failed := 0, cancelled := 0, endSec := s.line.seconds, refusal := code }
        ∧ Pends t stripSource causeStripRefused ∧ ∀ src, src ≠ stripSource → t.notice src = s.notice src)
  ∧ (∀ s : State, Ready s → s.plans.group.status = .active →
    ∃ t, exec .groupCancel s = .next t ∧ (∀ o, t.position o = s.position o)
      ∧ (∀ o p, s.plan o = some p → p.groupMember = true → (∀ x, x < o → ¬ Releases s x) →
        (s.op o = none ∨ ¬ Releases s o) →
        ((p.step = .queuedOpen ∨ p.step = .queuedClose ∨ (p.step = .dwell ∧ s.entry o = none)) →
          PlanOver o .cancelled s t)
        ∧ (p.step = .dwell → ¬ Releases s o → t.plan o = none ∧ (t.slot o).result = .cancelled))
      ∧ (∀ o p, s.plan o = some p → p.groupMember = true → (p.step = .opening ∨ p.step = .closing) → s.entry o = none →
        t.plan o = some { p with heldCancel := true } ∧ t.slot o = s.slot o)
      ∧ ((∀ x, ¬ Releases s x) → Only [.sched, .plans, .notices, .watch, .guard] s t
        ∧ (∀ o, (∀ p, s.plan o = some p → p.groupMember = false) →
          t.plan o = s.plan o ∧ t.slot o = s.slot o ∧ t.entry o = s.entry o)
        ∧ (let g := s.plans.group
          let n := (allOutlets.filter fun o => (s.plan o).any fun p =>
            p.groupMember && (p.step == .queuedOpen || p.step == .queuedClose || p.step == .dwell)).length
          (g.done + g.failed + g.cancelled + n < g.taken →
              t.plans.group = { g with cancelled := g.cancelled + n })
            ∧ (g.taken = g.done + g.failed + g.cancelled + n → 0 < n →
              t.plans.group = { g with
                cancelled := g.cancelled + n, status := .ended, result := .groupDone, endSec := s.line.seconds }
              ∧ Pends t stripSource causeGroupDone))))

/-! ### Branch Guard -/

/-- A change of a branch-sense input, corrected by the polarity, is debounced: the timer starts or stops, and when
the change has persisted the debounced sense takes it and the branch state follows. A lost sense enters DEAD: a closing
in AIMING is withdrawn and waits as BRANCH_DEAD, VERIFYING ends NOT_VERIFIED, the pulse of an opening or a second
attempt in AIMING is due at once, the closings that wait are paused, and the release sweep of a branch with loss policy
RELEASE gives every closed outlet with its release flag and no plan its mark and a RELEASE OFF plan, at a plan end too
(R67, R89, R91, R136, R137). A present sense takes DEAD to RETURNING with its timer started, where the closings of the
branch wait as LOAD and their deadlines resume, or with a return delay of 0 on to LIVE with its resolution, its dispatch
pass and its restores (R89, R91, R122 to R124, R138, R139). The expiry before its moment changes nothing (log 2), and
the later of the two values of a new admission deadline is found by the entry's age modulo 2 to the 32 (log 10): the
model's choices. -/
def Obligations.BranchFollowsSense : Prop :=
  ∀ (s : State) (b : BranchIx), Ready s →
    (∀ level, (s.gbranch b).input = level → exec (.branchSenseChange b level) s = .next s)
    ∧ (∀ level, (s.gbranch b).input ≠ level → (level != (s.bcfg b).lowPresent) = (s.gbranch b).debounced →
      ∃ t, exec (.branchSenseChange b level) s = .next t ∧ Only [.guard] s t
        ∧ SameElseBranch b s.guard.branches t.guard.branches ∧ t.guard.marks = s.guard.marks
        ∧ t.gbranch b = { s.gbranch b with input := level, debounceFrom := none })
    ∧ (∀ level, (s.gbranch b).input ≠ level → (level != (s.bcfg b).lowPresent) ≠ (s.gbranch b).debounced →
      (s.bcfg b).debounceMs ≠ 0 →
      ∃ t, exec (.branchSenseChange b level) s = .next t ∧ Only [.guard] s t
        ∧ SameElseBranch b s.guard.branches t.guard.branches ∧ t.guard.marks = s.guard.marks
        ∧ t.gbranch b = { s.gbranch b with input := level, debounceFrom := some s.now })
    ∧ (∀ level, (s.gbranch b).input ≠ level → (level != (s.bcfg b).lowPresent) ≠ (s.gbranch b).debounced →
      (s.bcfg b).debounceMs = 0 →
      ∃ t, exec (.branchSenseChange b level) s = .next t ∧ (t.gbranch b).input = level
        ∧ (t.gbranch b).debounced = (level != (s.bcfg b).lowPresent) ∧ (t.gbranch b).debounceFrom = none
        ∧ SenseMoves b (level != (s.bcfg b).lowPresent) s t)
    ∧ (∀ d, (s.gbranch b).debounceFrom = some d → d + (s.bcfg b).debounceMs * 8192 ≤ s.now →
      ∃ t, exec (.debounceExpiry b) s = .next t ∧ (t.gbranch b).input = (s.gbranch b).input
        ∧ (t.gbranch b).debounced = s.corrected b ∧ (t.gbranch b).debounceFrom = none
        ∧ SenseMoves b (s.corrected b) s t)
    ∧ ((∀ d, (s.gbranch b).debounceFrom = some d → s.now < d + (s.bcfg b).debounceMs * 8192) →
      exec (.debounceExpiry b) s = .next s)

/-- The return timer's expiry enters LIVE with the overload state clear, resolves the positions of the branch's
outlets by their sense, makes a dispatch pass, leaves the deadlines of its closings running, or paused while STOPPED,
and asks for the restore of every release-marked outlet: taken or ended at once, its mark clears, and one that is at
fault or has a plan declines and keeps it (R49, R74, R89, R91, R101, R138, R139). The command before its moment
changes nothing (log 2), and the later of the two values of a new admission deadline is found by the entry's age
modulo 2 to the 32 (log 10): the model's choices. -/
def Obligations.ReturnEntersLive : Prop :=
  ∀ (s : State) (b : BranchIx), Ready s →
    (∀ d, (s.gbranch b).returnFrom = some d → d + (s.bcfg b).returnDelay * 8192000 ≤ s.now →
      ∃ t, exec (.returnTimerExpiry b) s = .next t ∧ ReturnsToLive b s t)
    ∧ ((∀ d, (s.gbranch b).returnFrom = some d → s.now < d + (s.bcfg b).returnDelay * 8192000) →
      exec (.returnTimerExpiry b) s = .next s)

/-- What every window close with samples does to the overload of every branch: LIVE enters OVERLOAD or at persistence
1 SHEDDING, OVERLOAD counts its run, returns to LIVE or enters SHEDDING with a shed selection; in SHEDDING a running
SHED plan waits, STEPPING counts and at the shed step selects again or returns to LIVE, NO_CANDIDATE selects again or
returns (R126 to R132). The change to OVERLOAD withdraws the branch's closings in AIMING, which wait as LOAD, and ends
VERIFYING NOT_VERIFIED (R67, R91). A branch that stays LIVE evaluates the restore condition: failed, the hold stops;
held, the hold runs, and once it has reached the restore delay the restorable outlet with the lowest shed rank, then
the lower number, loses its shed mark and gets a RESTORE ON plan (R134, R135). Every release-marked outlet of such a
branch has its RESTORE ON request again, which clears the mark unless the outlet has a plan or is at fault (R139).
When the hold starts again, and that the branch must be LIVE before the close as well as after it for the release
restores, is DEDUCED (log 16); that they come before the restore condition, that an edge's new cycle or the entry into
HOLDOVER comes before the close (log 11), that what a tick declared does (log 7), and that the later of the two values
of a new admission deadline is found by the entry's age modulo 2 to the 32 (log 10), is the model's choice. -/
def Obligations.CloseJudgesOverload : Prop :=
  ∀ (s : State) (c : Instr), Ready s → ClosesWindow c s → 0 < s.meter.n →
    let u := beforeClose c s
    ∃ t, exec c s = .next t ∧ ∀ b : BranchIx,
      let above := (u.bcfg b).rated * (u.bcfg b).overload / 100 < (t.bmeter b).irms
      let low := (t.bmeter b).irms ≤ (u.bcfg b).rated * (u.bcfg b).restore / 100
      let run := min 60 ((u.gbranch b).overloadRun + 1)
      let count := min 60 ((u.gbranch b).stepCount + 1)
      ((u.gbranch b).state = .live → above → 1 < (u.bcfg b).persistence →
        (t.gbranch b).state = .overload ∧ (t.gbranch b).overloadRun = 1 ∧ (t.gbranch b).restoreHold = none
          ∧ Holds t (branchSource b) causeBranchOverload
          ∧ ∀ o p pl, u.op o = some p → u.plan o = some pl → branchOf o = b → u.entry o = none → o ∉ u.sched.retry →
            OperationOffLive o (if u.port.running then .load else .stopped) p pl u t
              ∧ (p.stage = .aiming → (p.direction = .open ∨ p.attempt = .second) →
                t.op o = some p ∧ t.plan o = some pl))
      ∧ ((u.gbranch b).state = .live → above → (u.bcfg b).persistence ≤ 1 →
        (t.gbranch b).state = .shedding ∧ (t.gbranch b).overloadRun = 1 ∧ (t.gbranch b).stepCount = 0
          ∧ ((t.gbranch b).shedPhase = .planRunning ∨ (t.gbranch b).shedPhase = .noCandidate))
      ∧ ((u.gbranch b).state = .live → ¬ above → (t.gbranch b).state = .live)
      ∧ ((u.gbranch b).state = .overload → ¬ above → OverloadOver b t)
      ∧ ((u.gbranch b).state = .overload → above → run < (u.bcfg b).persistence →
        (t.gbranch b).state = .overload ∧ (t.gbranch b).overloadRun = run)
      ∧ ((u.gbranch b).state = .overload → above → (u.bcfg b).persistence ≤ run →
        (t.gbranch b).overloadRun = run ∧ ShedSelected b u t)
      ∧ ((u.gbranch b).state = .shedding → (u.gbranch b).shedPhase = .planRunning → t.gbranch b = u.gbranch b)
      ∧ ((u.gbranch b).state = .shedding → (u.gbranch b).shedPhase = .stepping →
        (count < (u.bcfg b).shedStep → t.gbranch b = { u.gbranch b with stepCount := count })
        ∧ ((u.bcfg b).shedStep ≤ count → above → ShedSelected b u t)
        ∧ ((u.bcfg b).shedStep ≤ count → ¬ above → OverloadOver b t))
      ∧ ((u.gbranch b).state = .shedding → (u.gbranch b).shedPhase = .noCandidate →
        (above → ShedSelected b u t) ∧ (¬ above → OverloadOver b t))
      ∧ ((u.gbranch b).state = .live → ¬ above →
        (¬ ((∃ o, branchOf o = b ∧ (u.marks o).shed = true) ∧ low) →
          (t.gbranch b).restoreHold = none ∧ ∀ o, branchOf o = b → (t.marks o).shed = (u.marks o).shed)
        ∧ ((∃ o, branchOf o = b ∧ (u.marks o).shed = true) → low →
          (((u.gbranch b).restoreHold.getD 0 < (u.bcfg b).restoreDelay →
            (t.gbranch b).restoreHold = some ((u.gbranch b).restoreHold.getD 0)
              ∧ ∀ o, branchOf o = b → (t.marks o).shed = (u.marks o).shed)
          ∧ ((u.bcfg b).restoreDelay ≤ (u.gbranch b).restoreHold.getD 0 →
            (∀ o, branchOf o = b → u.plan o = none ∨ u.op o ≠ none ∨ ¬ Unresolved (u.position o)) →
            ((∀ o, ¬ Restorable u b o) → (t.gbranch b).restoreHold = some ((u.gbranch b).restoreHold.getD 0)
              ∧ ∀ o, branchOf o = b → (t.marks o).shed = (u.marks o).shed)
            ∧ ((∃ o, Restorable u b o) → (t.gbranch b).restoreHold = some 0
              ∧ ∃ x, Restorable u b x ∧ (∀ o, Restorable u b o → (u.ocfg x).shedRank ≤ (u.ocfg o).shedRank
                  ∧ ((u.ocfg x).shedRank = (u.ocfg o).shedRank → x ≤ o))
                ∧ (t.marks x).shed = false ∧ (t.slot x).origin = some .restore ∧ (t.slot x).kind = 1
                ∧ ∀ o, branchOf o = b → o ≠ x → (t.marks o).shed = (u.marks o).shed)))))
      ∧ ((u.gbranch b).state = .live → ¬ above → ∀ o, branchOf o = b → (u.marks o).release = true →
        ReleaseRestored o u t)
      ∧ (((u.gbranch b).state ≠ .live ∨ above) → ∀ o, branchOf o = b → (t.marks o).release = (u.marks o).release)

/-! ### Stall Watch -/

/-- A kick of 1 to 48 sets the kick word and the outlet's last kick, and acts by the watch state; any other value is
ignored. The grace end and the recovery span that a tick declared act on the outlet's watch. Every close sets the
count hold, tests activity and re-evaluates: an outlet without a plan on a LIVE branch takes its resume state or
stays, one on a DEAD branch goes to IDLE with the state to resume (R148, R151 to R154, R156). That the events of a
tick wait in a list for their own command and are carried out before the tick's close is the model's choice (log 7),
and so is that an edge's new cycle or the entry into HOLDOVER comes before a close (log 11); such a command that the
tick did not declare changes nothing (log 2), and a powered outlet that is judged already stays as it is (DEDUCED, log
8). -/
def Obligations.KicksAndTickEvents : Prop :=
  (∀ s : State, s.resetHeld = false →
    (∀ v : Word, s.tickDue = [] → (v = 0 ∨ 48 < v.toNat) → exec (.kick v) s = .next s)
    ∧ (∀ (v : Word) (o : OutletIx), s.tickDue = [] → v.toNat = outletNumber o →
      ∃ t, exec (.kick v) s = .next t ∧ Only [.watch] s t ∧ SameElse o s.watch.outlets t.watch.outlets
        ∧ t.watch.kickWord = v
        ∧ (((s.owatch o).state = .watching ∨ (s.owatch o).state = .stalled ∨ (s.owatch o).state = .grace) →
          t.owatch o = { s.owatch o with state := .watching, quiet := 0, lastKick := s.line.seconds })
        ∧ ((s.owatch o).state ≠ .watching → (s.owatch o).state ≠ .stalled → (s.owatch o).state ≠ .grace →
          t.owatch o = { s.owatch o with lastKick := s.line.seconds }))
    ∧ (∀ o, TickEvent.graceEnd o ∈ s.tickDue → (s.owatch o).state = .grace →
      ∃ t, exec (.graceEnd o) s = .next t ∧ Only [.watch, .tickDue] s t
        ∧ t.tickDue = s.tickDue.erase (.graceEnd o) ∧ SameElse o s.watch.outlets t.watch.outlets
        ∧ t.watch.kickWord = s.watch.kickWord
        ∧ t.owatch o = { s.owatch o with state := .watching, quiet := 0 })
    ∧ (∀ o, TickEvent.graceEnd o ∉ s.tickDue → exec (.graceEnd o) s = .next s)
    ∧ (∀ o, TickEvent.recoverySpan o ∈ s.tickDue →
      ∃ t, exec (.recoverySpanReached o) s = .next t ∧ Only [.watch, .tickDue] s t
        ∧ t.tickDue = s.tickDue.erase (.recoverySpan o) ∧ SameElse o s.watch.outlets t.watch.outlets
        ∧ t.watch.kickWord = s.watch.kickWord ∧ t.owatch o = { s.owatch o with attempts := 0, healthy := 0 })
    ∧ (∀ o, TickEvent.recoverySpan o ∉ s.tickDue → exec (.recoverySpanReached o) s = .next s))
  ∧ (∀ (s : State) (c : Instr), Ready s → ClosesWindow c s →
    let u := beforeClose c s
    ∃ t, exec c s = .next t ∧ ∀ o : OutletIx,
      let hold : CountHold := if u.meter.n = 0 then .stale
        else if (t.ometer o).power < (u.ocfg o).standbyFloor then .standby else .none
      let isActive := 0 < u.meter.n ∧ ((u.ometer o).power + (u.ocfg o).activityBand ≤ (t.ometer o).power
        ∨ (t.ometer o).power + (u.ocfg o).activityBand ≤ (u.ometer o).power)
      let tested : OutletWatch := { u.owatch o with hold := hold }
      let w : OutletWatch := if isActive ∧ ((u.owatch o).state = .watching ∨ (u.owatch o).state = .stalled) then
        { tested with state := .watching, quiet := 0 } else tested
      u.plan o = none → t.plan o = none → u.marks o = { shed := false, release := false } →
      (u.position o = .closed → u.branchStateOf o = .live → t.branchStateOf o = .live →
        t.owatch o = poweredWatch (u.ocfg o).bootGrace w)
      ∧ (u.branchStateOf o = .dead → t.owatch o = idledWatch w))

/-- The declaration of a stall raises STALL and acts on auto-recover and the attempts: a WATCH CYCLE request that is
taken counts an attempt, a declined one leaves STALLED, and used-up attempts give up. A recovery span of the same tick
has reset the attempts first (R155, R156). A plan that the host creates at the declaring tick is found by the request,
which is declined with BUSY: the attempts are kept, and the plan's creation takes STALLED to IDLE with resume state
STALLED, while an outlet whose attempts are used up has given up (R148, R155). A posted OFF takes the outlet to IDLE;
a WATCH plan that is cancelled, times out or ends unverified gives up; a closing that ends DONE with its plan starts a
fresh grace, and out of GIVEN_UP for a POSTED or GROUP plan alone; so does an ON posted to a closed outlet that had
been given up (R148, R149, R157, R158). That the declaration waits in a list for its own command, and that a posting
after the tick and before it is at the same moment, is the model's choice (log 7), an undeclared one changes nothing
(log 2), and the admission deadline of a WATCH plan is reached when it lies less than 2 to the 31 milliseconds back
modulo 2 to the 32 (log 10). -/
def Obligations.StallDeclarationActs : Prop :=
  (∀ (s : State) (o : OutletIx), s.resetHeld = false →
    (TickEvent.stall o ∉ s.tickDue → exec (.stallDeclaration o) s = .next s)
    ∧ (TickEvent.stall o ∈ s.tickDue →
      let a := if TickEvent.recoverySpan o ∈ s.tickDue then 0 else (s.owatch o).attempts
      ∃ t, exec (.stallDeclaration o) s = .next t ∧ Pends t (outletSource o) causeStall
        ∧ (t.owatch o).healthy = 0
        ∧ t.tickDue = (s.tickDue.erase (.recoverySpan o)).erase (.stall o)
        ∧ ((s.ocfg o).autoRecover = false → (t.owatch o).state = .stalled ∧ (t.owatch o).attempts = a
          ∧ t.plan o = s.plan o)
        ∧ ((s.ocfg o).autoRecover = true → (s.ocfg o).attemptLimit ≤ a →
          (t.owatch o).state = .givenUp ∧ (t.owatch o).attempts = a
            ∧ Pends t (outletSource o) causeGaveUp ∧ t.plan o = s.plan o)
        ∧ ((s.ocfg o).autoRecover = true → a < (s.ocfg o).attemptLimit → s.plan o = none →
          isClosed (s.position o) = true →
          (t.owatch o).state = .recovering ∧ (t.owatch o).attempts = a + 1
            ∧ ∃ p, t.plan o = some p ∧ p.kind = .cycle ∧ p.origin = .watch
              ∧ p.dwell = (s.ocfg o).offDwell ∧ p.tag = 0)
        ∧ ((s.ocfg o).autoRecover = true → a < (s.ocfg o).attemptLimit →
          (s.plan o ≠ none ∨ isClosed (s.position o) = false) →
          (t.owatch o).state = .stalled ∧ (t.owatch o).attempts = a ∧ t.plan o = s.plan o)))
  ∧ (∀ (s : State) (o : OutletIx), Ready s →
    (s.plan o = none → (s.position o = .closed ∨ s.position o = .closedUnverified) →
      ∃ t, exec (.postingOff o) s = .next t ∧ SameElse o s.watch.outlets t.watch.outlets
        ∧ t.owatch o = idledWatch (s.owatch o))
    ∧ (∀ pl, s.plan o = some pl → pl.origin = .watch →
      (s.owatch o).state ≠ .disabled → (s.owatch o).state ≠ .givenUp →
      ((pl.step = .queuedOpen ∨ pl.step = .queuedClose ∨ pl.step = .dwell) →
        ∃ t, exec (.postingCancel o) s = .next t ∧ t.owatch o = { s.owatch o with state := .givenUp }
          ∧ Pends t (outletSource o) causeGaveUp)
      ∧ (∀ e, s.entry o = some e → e.direction = .close → e.pausedSince = none →
        (s.ms - e.deadline).toNat < 2147483648 →
        ∃ t, exec (.admissionDeadlineExpiry o) s = .next t ∧ t.owatch o = { s.owatch o with state := .givenUp }
          ∧ Pends t (outletSource o) causeGaveUp)
      ∧ (∀ p, s.op o = some p → p.stage = .settling → p.endsAt ≤ s.now → s.isLive (branchOf o) = false →
        pl.heldCancel = false → pl.waiting = false → pl.kind = .cycle → pl.step = .closing →
        ∃ t, exec (.settleEnd o) s = .next t ∧ t.owatch o = { s.owatch o with state := .givenUp }
          ∧ Pends t (outletSource o) causeGaveUp))
    ∧ (s.plan o = none → (s.owatch o).state = .givenUp →
      ((s.position o = .closed ∨ s.position o = .closedUnverified) →
        ∃ t, exec (.postingOn o) s = .next t
          ∧ t.owatch o = freshWatch (s.isLive (branchOf o)) (s.ocfg o).bootGrace (s.owatch o))
      ∧ ((s.position o = .open ∨ s.position o = .openUnverified) →
        ∃ t, exec (.postingOff o) s = .next t ∧ t.owatch o = s.owatch o)))
  ∧ (∀ (s : State) (v : SampleSet) (sense : BitVec 48) (f : InFlight), Ready s → s.line.inFlight = some f →
    ∃ t, exec (.completeSlot v sense) s = .next t ∧ ∀ (o : OutletIx) (p : Op) (pl : Plan), s.op o = some p →
      s.plan o = some pl → p.stage = .verifying → p.direction = .close → p.endsAt ≤ f.startAt → s.entry o = none →
      o ∉ s.sched.retry → s.isLive (branchOf o) = true →
      (8 ≤ p.asserted + (if sense.getLsbD o.val then 1 else 0) ∧ 63 ≤ s.relay[o].history.length) →
      pl.heldCancel = false → pl.waiting = false →
      (pl.kind = .on ∨ pl.kind = .cycle ∧ pl.step = .closing ∧ pl.openingUnverified = false) →
      ((s.owatch o).state = .disabled → t.owatch o = s.owatch o)
      ∧ ((s.owatch o).state = .givenUp → t.owatch o =
        if pl.origin = .posted ∨ pl.origin = .group then freshWatch true (s.ocfg o).bootGrace (s.owatch o)
        else s.owatch o)
      ∧ ((s.owatch o).state ≠ .disabled → (s.owatch o).state ≠ .givenUp →
        t.owatch o = freshWatch true (s.ocfg o).bootGrace (s.owatch o)))
  ∧ (∀ (s : State) (o : OutletIx) (c : Instr), s.resetHeld = false →
    (s.tickDue = [.stall o] ∨ s.tickDue = [.recoverySpan o, .stall o]) → s.plan o = none →
    (s.position o = .closed ∨ s.position o = .closedUnverified) → s.isLive (branchOf o) = true →
    (c = .postingOn o ∨ c = .postingOff o ∨ c = .postingCycle o
      ∨ ((c = .groupOff ∨ c = .groupCycle) ∧ s.plans.group.status ≠ .active
        ∧ (groupMembers s).getLsbD o.val = true)) →
    let a := if TickEvent.recoverySpan o ∈ s.tickDue then 0 else (s.owatch o).attempts
    let gaveUp := (s.ocfg o).autoRecover && decide ((s.ocfg o).attemptLimit ≤ a)
    let w := { s.owatch o with attempts := a, healthy := 0 }
    ∃ t, exec c s = .next t ∧ t.tickDue = [] ∧ Pends t (outletSource o) causeStall
      ∧ (gaveUp = true → Pends t (outletSource o) causeGaveUp)
      ∧ (c ≠ .postingOn o → (∃ p, t.plan o = some p ∧ p.origin ≠ .watch)
        ∧ t.owatch o = if gaveUp then { w with state := .givenUp } else { w with state := .idle, resume := .stalled })
      ∧ (c = .postingOn o → t.plan o = none
        ∧ t.owatch o = if gaveUp then freshWatch true (s.ocfg o).bootGrace w
          else { w with state := .stalled, resume := .stalled }))

/-! ### Capture Channel -/

/-- START, ABORT, an unknown command and the arm timer, by the state of the capture. A START that is taken checks the
source, index, cycles, trigger and arm timeout of the block's host-owned fields, and flags each that it changed (R166,
R167, R168, R172, R173). The arm timer's command before its moment changes nothing: the model's choice (log 2). -/
def Obligations.CaptureCommandsAct : Prop :=
  ∀ s : State, Ready s →
    ((s.capture.state = .idle ∨ s.capture.state = .done ∨ s.capture.state = .aborted) →
      (∃ t, exec .captureStart s = .next t ∧ Only [.capture] s t
        ∧ RequestChecked s t.capture.request
        ∧ t.capture = { state := .armed, request := t.capture.request, armedFrom := some s.now, cyclesBegun := 0
                        firstKind := s.capture.firstKind, abortPending := none, fill := 0, missed := 0
                        holdover := false, endReason := .none, refusal := s.capture.refusal })
      ∧ exec .captureAbort s = .next s)
    ∧ ((s.capture.state = .armed ∨ s.capture.state = .running) →
      ∃ t, exec .captureStart s = .next t ∧ Only [.capture, .notices] s t
        ∧ t.capture = { s.capture with refusal := .busy } ∧ Pends t stripSource causeStripRefused)
    ∧ (∀ v, WellFormed (.captureUnknownCommand v) = true →
      ∃ t, exec (.captureUnknownCommand v) s = .next t ∧ Only [.capture, .notices] s t
        ∧ t.capture = { s.capture with refusal := .badKind } ∧ Pends t stripSource causeStripRefused)
    ∧ ((s.capture.state = .armed ∨ (s.capture.state = .running ∧ slotTaken s = false
        ∧ s.capture.abortPending = none)) →
      ∃ t, exec .captureAbort s = .next t ∧ Only [.capture, .notices] s t
        ∧ t.capture = { s.capture with
          state := .aborted, endReason := .aborted, armedFrom := none, abortPending := none }
        ∧ Pends t stripSource causeCaptureEnded)
    ∧ (s.capture.state = .running → slotTaken s = true → s.capture.abortPending = none →
      ∃ t, exec .captureAbort s = .next t ∧ Only [.capture] s t
        ∧ t.capture = { s.capture with abortPending := some .aborted })
    ∧ (s.capture.state = .running → s.capture.abortPending ≠ none → exec .captureAbort s = .next s)
    ∧ (∀ d, s.capture.state = .armed → s.capture.armedFrom = some d →
      (d + s.capture.request.armTimeout * 8192000 ≤ s.now →
        ∃ t, exec .armTimeout s = .next t ∧ Only [.capture, .notices] s t
          ∧ t.capture = { s.capture with
            state := .aborted, endReason := .noTrigger, armedFrom := none, abortPending := none }
          ∧ Pends t stripSource causeCaptureEnded)
      ∧ (s.now < d + s.capture.request.armTimeout * 8192000 → exec .armTimeout s = .next s))

/-- A capture from its trigger to its end. A complete slot that it takes writes its source's words at the fill count,
which then counts them, and no other byte of exchange memory changes; a missed one is counted; an abort that waits for
the slot in flight ends the capture as that slot settles. NEXT_CYCLE starts at the next cycle start, with slot 0 of
that cycle the first one taken; ON_OPERATION at a pulse start of its outlet, of an opening or a closing and of either
attempt, with the slot that starts at that moment the first one taken. A cycle start begins a further captured cycle,
or after the last requested one ends the capture DONE with COUNT; a captured cycle that did not start at an edge sets
HOLDOVER, the first one of ON_OPERATION at the pulse, by the start of the cycle in which the pulse falls (R168 to R173).
Which cycle is counted first where the pulse comes after the last slot start of its cycle, and that the next cycle's
start then judges HOLDOVER too, is DEDUCED (log 13). -/
def Obligations.CaptureWritesTakenSlot : Prop :=
  (∀ (s : State) (v : SampleSet) (sense : BitVec 48), Ready s → MemoryCanonical s → slotTaken s = true →
    s.capture.state = .running →
    s.capture.fill + (if s.capture.request.source = .outlet then 2 else 1) ≤ 4096 →
    ∃ t, exec (.completeSlot v sense) s = .next t
      ∧ (let settled := fun c : Capture => match s.capture.abortPending with
          | none => c
          | some r => { c with state := .aborted, endReason := r, armedFrom := none, abortPending := none }
        let area := 0x2000 + 2 * s.capture.fill
        (s.capture.abortPending ≠ none → Pends t stripSource causeCaptureEnded)
        ∧ (∀ o : OutletIx, s.capture.request.source = .outlet → s.capture.request.index = outletNumber o →
          t.capture = settled { s.capture with fill := s.capture.fill + 2 }
          ∧ Memory.word t.xm area = v[(phaseOf o).val] ∧ Memory.word t.xm (area + 2) = v[3 + o.val]
          ∧ ∀ a, (a < area ∨ area + 4 ≤ a) → Memory.read t.xm a = Memory.read s.xm a)
        ∧ (∀ b : BranchIx, s.capture.request.source = .branch → s.capture.request.index = b.val + 1 →
          t.capture = settled { s.capture with fill := s.capture.fill + 1 }
          ∧ Memory.word t.xm area = BitVec.ofInt 16 (((outletsOf b).map (currentSample v)).sum / 8)
          ∧ ∀ a, (a < area ∨ area + 2 ≤ a) → Memory.read t.xm a = Memory.read s.xm a)
        ∧ (∀ p : PhaseIx, s.capture.request.source = .phase → s.capture.request.index = p.val + 1 →
          t.capture = settled { s.capture with fill := s.capture.fill + 1 }
          ∧ Memory.word t.xm area = v[p.val]
          ∧ ∀ a, (a < area ∨ area + 2 ≤ a) → Memory.read t.xm a = Memory.read s.xm a)))
  ∧ (∀ s : State, Ready s → s.line.nextSlot < 64 →
    s.line.cycleStart + s.line.nextSlot * s.line.period / 64 ≤ s.now → s.capture.state = .running →
    slotTaken s = true → 1 ≤ s.capture.cyclesBegun →
    ∃ t, exec .slotStart s = .next t ∧ t.xm = s.xm
      ∧ (s.capture.abortPending = none → slotTaken t = true
        ∧ t.capture = { s.capture with missed := s.capture.missed + 1 })
      ∧ (∀ r, s.capture.abortPending = some r → slotTaken t = false ∧ Pends t stripSource causeCaptureEnded
        ∧ t.capture = { s.capture with
          missed := s.capture.missed + 1, state := .aborted, endReason := r, armedFrom := none
          abortPending := none }))
  ∧ (∀ (s : State) (c : Instr) (k : CycleKind), Ready s → s.capture.abortPending = none →
    ((c = .flywheelStart ∧ k = .flywheel ∧ s.line.tracker = .locked
        ∧ s.line.cycleStart + s.line.period ≤ s.now)
      ∨ (c = .freeRunStart ∧ k = .freeRun ∧ s.line.tracker ≠ .locked
        ∧ s.line.cycleStart + s.line.period ≤ s.now)
      ∨ (c = .lineSyncEdge ∧ k = .edge ∧ s.line.tracker = .locked
        ∧ ∃ p, TimedEdge s p ∧ 126031 ≤ p ∧ p ≤ 182044)) →
    ∃ t, exec c s = .next t ∧ t.xm = s.xm
      ∧ (s.capture.state = .armed → s.capture.request.trigger = .nextCycle → s.capture.cyclesBegun = 0 →
        slotTaken t = true
        ∧ t.capture = { s.capture with
          state := .running, armedFrom := none, firstKind := k, cyclesBegun := 1
          holdover := s.capture.holdover || decide (k ≠ .edge) })
      ∧ (s.capture.state = .armed → s.capture.request.trigger = .onOperation →
        slotTaken t = false ∧ t.capture = s.capture)
      ∧ (s.capture.state = .running → s.capture.cyclesBegun = 0 → slotTaken s = false → slotTaken t = true
        ∧ t.capture = { s.capture with
          cyclesBegun := 1
          holdover := s.capture.holdover || decide (k ≠ .edge) || decide (s.capture.firstKind ≠ .edge) })
      ∧ (s.capture.state = .running → 1 ≤ s.capture.cyclesBegun →
        let missed := if slotTaken s then s.capture.missed + 1 else s.capture.missed
        (s.capture.request.cycles ≤ s.capture.cyclesBegun →
          slotTaken t = false ∧ Pends t stripSource causeCaptureEnded
          ∧ t.capture = { s.capture with
            missed := missed, state := .done, endReason := .count, armedFrom := none })
        ∧ (s.capture.cyclesBegun < s.capture.request.cycles → slotTaken t = true
          ∧ t.capture = { s.capture with
            missed := missed, cyclesBegun := s.capture.cyclesBegun + 1
            holdover := s.capture.holdover || decide (k ≠ .edge) })))
  ∧ (∀ (s : State) (o : OutletIx) (p : Op), Ready s → s.op o = some p → p.stage = .aiming → p.pulseDue = true →
    (p.direction = .open ∨ p.attempt = .second ∨ (s.isLive (branchOf o) = true ∧ s.port.running = true
      ∧ branchSpacingPassed s (branchOf o) = true ∧ stripSpacingPassed s = true)) →
    ∃ t, exec (.pulseStart o) s = .next t ∧ t.xm = s.xm
      ∧ ((s.capture.state ≠ .armed ∨ s.capture.request.trigger ≠ .onOperation
        ∨ s.capture.request.index ≠ outletNumber o) → t.capture = s.capture ∧ t.line = s.line)
      ∧ (s.capture.state = .armed → s.capture.request.trigger = .onOperation →
        s.capture.request.index = outletNumber o → s.capture.cyclesBegun = 0 →
        (∀ f, s.line.inFlight = some f → f.startAt = s.now → p.aim ≠ .immediate → slotTaken t = true
          ∧ t.capture = { s.capture with
            state := .running, armedFrom := none, firstKind := s.line.cycleKind, cyclesBegun := 1
            holdover := s.capture.holdover || decide (s.line.cycleKind ≠ .edge) })
        ∧ ((p.aim = .immediate ∨ ∀ f, s.line.inFlight = some f → f.startAt ≠ s.now) → t.line = s.line
          ∧ t.capture = { s.capture with
            state := .running, armedFrom := none, firstKind := s.line.cycleKind
            holdover := s.capture.holdover || decide (s.line.cycleKind ≠ .edge) })))
  ∧ (∀ s : State, Ready s → s.line.nextSlot < 64 →
    s.line.cycleStart + s.line.nextSlot * s.line.period / 64 ≤ s.now → s.capture.state = .running →
    slotTaken s = false → s.capture.abortPending = none → s.capture.cyclesBegun = 0 →
    ∃ t, exec .slotStart s = .next t ∧ slotTaken t = true
      ∧ t.capture = { s.capture with
        cyclesBegun := 1, holdover := s.capture.holdover || decide (s.capture.firstKind ≠ .edge) })

/-! ### Services -/

/-- An outlet APPLY takes every setting of the outlet's record clamped to its range, sets the clamp flag of each
setting that it clamped and of no other, counts the service, and writes no host-owned field; a changed expected load
makes a dispatch pass, and without one it reaches its settings, its service, its watch and the attention pulse alone;
no APPLY raises a cause (R43, R44, R92, R119, R150, R161, R162, R180, R181). -/
def Obligations.OutletApplyTakesSettings : Prop :=
  ∀ (s : State) (o : OutletIx), Ready s →
    let w := fun off => (Memory.word s.xm (outletBase o + off)).toNat
    ∃ t, exec (.outletApply o) s = .next t ∧ SameElse o s.settings.outlets t.settings.outlets
      ∧ t.settings.branches = s.settings.branches ∧ t.settings.strip = s.settings.strip
      ∧ t.settings.phases = s.settings.phases ∧ t.xm = s.xm ∧ t.line = s.line ∧ t.guard = s.guard
      ∧ SameElse o s.watch.outlets t.watch.outlets ∧ t.watch.kickWord = s.watch.kickWord ∧ NoticesKept s t
      ∧ t.port = { s.port with
        outletService := upd s.port.outletService o fun _ => t.port.outletService[o]
        outletClamps := upd s.port.outletClamps o fun _ => t.port.outletClamps[o] }
      ∧ ((t.ocfg o).expectedLoad = (s.ocfg o).expectedLoad → Only [.settings, .port, .watch, .notices] s t)
      ∧ ((t.ocfg o).expectedLoad ≠ (s.ocfg o).expectedLoad →
        Only [.port, .watch, .notices] (dispatchPass { s with settings := t.settings }) t)
      ∧ ((t.ocfg o).currentGain = max 16384 (min 49151 (w 0x5E))
        ∧ (t.ocfg o).currentLimit = max 100 (min 32000 (w 0x60)) ∧ (t.ocfg o).expectedLoad = min 32000 (w 0x62)
        ∧ (t.ocfg o).coilPulse = max 5 (min 50 (w 0x64 % 256))
        ∧ (t.ocfg o).settle = max 5 (min 100 (w 0x64 / 256)) ∧ (t.ocfg o).advance = min 63 (w 0x66 % 256)
        ∧ (t.ocfg o).priority = min 3 (w 0x66 / 256) ∧ (t.ocfg o).offDwell = max 1 (min 600 (w 0x68))
        ∧ (w 0x6A % 256 = 0 → (t.ocfg o).policy = .keep) ∧ (w 0x6A % 256 = 1 → (t.ocfg o).policy = .on)
        ∧ (2 ≤ w 0x6A % 256 → (t.ocfg o).policy = .off) ∧ (t.ocfg o).shedRank = min 15 (w 0x6A / 256)
        ∧ (t.ocfg o).watchEnable = decide (w 0x6C % 2 = 1)
        ∧ (t.ocfg o).autoRecover = decide (w 0x6C / 2 % 2 = 1)
        ∧ (t.ocfg o).releaseFlag = decide (w 0x6C / 4 % 2 = 1)
        ∧ (t.ocfg o).locate = decide (w 0x6C / 8 % 2 = 1) ∧ (t.ocfg o).attemptLimit = min 7 (w 0x6C / 256)
        ∧ (t.ocfg o).bootGrace = min 1800 (w 0x6E) ∧ (t.ocfg o).quietLimit = max 10 (min 3600 (w 0x70))
        ∧ (t.ocfg o).activityBand = max 1 (min 5000 (w 0x72)) ∧ (t.ocfg o).standbyFloor = min 5000 (w 0x74)
        ∧ (t.ocfg o).recoverySpan = max 60 (min 86400 (w 0x76 + 65536 * w 0x78))
        ∧ (t.ocfg o).enable.toNat = w 0x7A % 256)
      ∧ (∀ i : Fin 16, t.port.outletClamps[o].getLsbD i.val =
        [outOf 16384 49151 (w 0x5E), outOf 100 32000 (w 0x60), outOf 0 32000 (w 0x62), outOf 5 50 (w 0x64 % 256),
          outOf 5 100 (w 0x64 / 256), outOf 0 63 (w 0x66 % 256), outOf 0 3 (w 0x66 / 256), outOf 1 600 (w 0x68),
          outOf 0 2 (w 0x6A % 256), outOf 0 15 (w 0x6A / 256), outOf 0 7 (w 0x6C / 256), outOf 0 1800 (w 0x6E),
          outOf 10 3600 (w 0x70), outOf 1 5000 (w 0x72), outOf 0 5000 (w 0x74),
          outOf 60 86400 (w 0x76 + 65536 * w 0x78)].getD i.val false)
      ∧ t.port.outletService[o].count = s.port.outletService[o].count + 1
      ∧ t.port.outletService[o].result = (if t.port.outletClamps[o] = 0 then .ok else .clamped)
      ∧ ((t.ocfg o).watchEnable = false → (t.owatch o).state = .disabled ∧ (t.owatch o).attempts = 0
        ∧ (t.owatch o).grace = 0 ∧ (t.owatch o).quiet = 0 ∧ (t.owatch o).healthy = 0
        ∧ (t.owatch o).resume = .none)
      ∧ ((t.ocfg o).watchEnable = true → (t.owatch o).state ≠ .disabled)

/-- A branch APPLY takes the branch's settings clamped to their ranges, the restore percentage below the overload
percentage, flags each setting that it clamped and counts the service; a strip APPLY does the same for the strip and
the three phases, each undervoltage threshold at most its overvoltage threshold (R16, R43, R44, R126, R141, R180,
R181, R190, R191). A changed polarity is debounced, or taken at once with a debounce time of 0; a debounce or a return
timer that has reached its new time takes its change (R122, R123, R138, R142). A changed closing spacing moves the
hold-off expiry and lets the deferred closings that it frees aim again (R56, R86); it makes a dispatch pass, and so
does a changed rated current, admission percentage or default expected load (R92). Apart from that an APPLY reaches
its settings, its service and the attention pulse alone. The order of these effects, the polarity before a running
debounce timer and the debounced change before the return timer (log 11), and that the later of the two values of a
new admission deadline is found by the entry's age modulo 2 to the 32 (log 10), is the model's choice. -/
def Obligations.BranchAndStripApplyTakeSettings : Prop :=
  ∀ s : State, Ready s →
    (∀ b : BranchIx,
      let w := fun off => (Memory.word s.xm (branchBase b + off)).toNat
      let ovl := max 50 (min 150 (w 0x2C / 256))
      let rst := max 10 (min 100 (w 0x2E % 256))
      ∃ t, exec (.branchApply b) s = .next t ∧ SameElseBranch b s.settings.branches t.settings.branches
        ∧ t.settings.outlets = s.settings.outlets ∧ t.settings.strip = s.settings.strip
        ∧ t.settings.phases = s.settings.phases ∧ t.xm = s.xm ∧ t.line = s.line
        ∧ t.port = { s.port with
          branchService := upd s.port.branchService b fun _ => t.port.branchService[b]
          branchClamps := upd s.port.branchClamps b fun _ => t.port.branchClamps[b] }
        ∧ (let u : State := { s with settings := t.settings }
          let spacing := (t.bcfg b).spacing != (s.bcfg b).spacing
          let holdOff := if spacing then holdOffAfter s (s.sbranch b).lastStart (t.bcfg b).spacing
            else (s.sbranch b).holdOff
          let w : State := { u with sched := { s.sched with
            branches := upd s.sched.branches b fun x => { x with holdOff := holdOff } } }
          let polarity := (t.bcfg b).lowPresent != (s.bcfg b).lowPresent
          GuardTakesApply b polarity u t ∧ SameElseBranch b s.guard.branches t.guard.branches
          ∧ (t.sbranch b).holdOff = holdOff ∧ t.sched.holdOff = s.sched.holdOff
          ∧ t.sched.lastStart = s.sched.lastStart
          ∧ (∀ x, (t.sbranch x).lastStart = (s.sbranch x).lastStart ∧ (t.sbranch x).recent = (s.sbranch x).recent
            ∧ (x ≠ b → (t.sbranch x).holdOff = (s.sbranch x).holdOff))
          ∧ (polarity = false → debounceReached u b = false → returnReached u b = false →
            ((spacing = false ∨ ∀ o p, s.op o = some p → p.deferred = false) →
              PassWhen (spacing || (t.bcfg b).rated != (s.bcfg b).rated
                || (t.bcfg b).admission != (s.bcfg b).admission) w t)
            ∧ (spacing = true → ∀ o p, s.op o = some p → p.stage = .aiming → p.direction = .close →
              p.attempt = .first → p.deferred = true → s.entry o = none → o ∉ s.sched.retry →
              branchSpacingPassed w (branchOf o) = true → stripSpacingPassed w = true →
              t.op o = some { p with
                deferred := false, cyclesSeen := 0, pulseDue := decide (p.aim = .immediate) })))
        ∧ ((t.bcfg b).currentGain = max 16384 (min 49151 (w 0x28))
          ∧ (t.bcfg b).rated = max 1000 (min 63000 (w 0x2A))
          ∧ (t.bcfg b).admission = max 10 (min 100 (w 0x2C % 256)) ∧ (t.bcfg b).overload = ovl
          ∧ (t.bcfg b).restore = (if rst < ovl then rst else ovl - 1)
          ∧ (t.bcfg b).persistence = max 1 (min 60 (w 0x2E / 256))
          ∧ (t.bcfg b).shedStep = max 1 (min 60 (w 0x30 % 256))
          ∧ (t.bcfg b).releasePolicy = decide (w 0x30 / 256 ≠ 0)
          ∧ (t.bcfg b).lowPresent = decide (w 0x32 % 256 ≠ 0)
          ∧ (w 0x32 / 256 = 0 → (t.bcfg b).debounceMs = 0) ∧ (w 0x32 / 256 = 1 → (t.bcfg b).debounceMs = 10)
          ∧ (w 0x32 / 256 = 2 → (t.bcfg b).debounceMs = 20) ∧ (3 ≤ w 0x32 / 256 → (t.bcfg b).debounceMs = 40)
          ∧ (t.bcfg b).spacing = min 5000 (w 0x34) ∧ (t.bcfg b).restoreDelay = min 3600 (w 0x36)
          ∧ (t.bcfg b).returnDelay = min 600 (w 0x38) ∧ (t.bcfg b).enable.toNat = w 0x3A % 256)
        ∧ t.port.branchService[b].count = s.port.branchService[b].count + 1
        ∧ t.port.branchService[b].result = (if t.port.branchClamps[b] = 0 then .ok else .clamped)
        ∧ (∀ i : Fin 16, t.port.branchClamps[b].getLsbD i.val =
          [outOf 16384 49151 (w 0x28), outOf 1000 63000 (w 0x2A), outOf 10 100 (w 0x2C % 256),
            outOf 50 150 (w 0x2C / 256), outOf 10 100 (w 0x2E % 256) || decide (ovl ≤ rst),
            outOf 1 60 (w 0x2E / 256), outOf 1 60 (w 0x30 % 256), outOf 0 1 (w 0x30 / 256),
            outOf 0 1 (w 0x32 % 256), outOf 0 3 (w 0x32 / 256), outOf 0 5000 (w 0x34), outOf 0 3600 (w 0x36),
            outOf 0 600 (w 0x38)].getD i.val false))
    ∧ (let w := fun off => (Memory.word s.xm off).toNat
      let f := fun (p : PhaseIx) off => (Memory.word s.xm (phaseBase p + off)).toNat
      ∃ t, exec .stripApply s = .next t ∧ t.settings.outlets = s.settings.outlets
        ∧ t.settings.branches = s.settings.branches ∧ t.xm = s.xm ∧ t.line = s.line ∧ t.guard = s.guard
        ∧ NoticesKept s t
        ∧ t.port = { s.port with
          stripService := t.port.stripService, stripClamps := t.port.stripClamps, phaseClamps := t.port.phaseClamps }
        ∧ (let spacing := t.settings.strip.spacing != s.settings.strip.spacing
          let holdOff := if spacing then holdOffAfter s s.sched.lastStart t.settings.strip.spacing
            else s.sched.holdOff
          let w : State := { s with settings := t.settings, sched := { s.sched with holdOff := holdOff } }
          t.sched.holdOff = holdOff ∧ t.sched.lastStart = s.sched.lastStart
          ∧ (∀ x, (t.sbranch x).lastStart = (s.sbranch x).lastStart ∧ (t.sbranch x).recent = (s.sbranch x).recent
            ∧ (t.sbranch x).holdOff = (s.sbranch x).holdOff)
          ∧ ((spacing = false ∨ ∀ o p, s.op o = some p → p.deferred = false) →
            PassWhen (spacing || t.settings.strip.defaultLoad != s.settings.strip.defaultLoad) w t)
          ∧ (spacing = true → ∀ o p, s.op o = some p → p.stage = .aiming → p.direction = .close →
            p.attempt = .first → p.deferred = true → s.entry o = none → o ∉ s.sched.retry →
            branchSpacingPassed w (branchOf o) = true → stripSpacingPassed w = true →
            t.op o = some { p with deferred := false, cyclesSeen := 0, pulseDue := decide (p.aim = .immediate) }))
        ∧ (t.settings.strip.creep = min 500 (w 0x36)
          ∧ t.settings.strip.neutralLimit = max 1000 (min 65000 (w 0x38))
          ∧ t.settings.strip.defaultLoad = max 100 (min 32000 (w 0x3A))
          ∧ t.settings.strip.spacing = min 5000 (w 0x3C)
          ∧ t.settings.strip.admissionTimeout = max 1 (min 3600 (w 0x3E))
          ∧ t.settings.strip.reRaise = max 5 (min 3600 (w 0x40))
          ∧ t.settings.strip.enable.toNat = w 0x42 % 256)
        ∧ (∀ p, (t.pcfg p).presence = max 2000 (min 20000 (f p 0x16))
          ∧ (t.pcfg p).voltageGain = max 16384 (min 49151 (f p 0x18))
          ∧ (t.pcfg p).overvoltage = f p 0x1C ∧ (t.pcfg p).undervoltage = min (f p 0x1A) (f p 0x1C)
          ∧ t.port.phaseClamps.getLsbD (4 * p.val) = outOf 2000 20000 (f p 0x16)
          ∧ t.port.phaseClamps.getLsbD (4 * p.val + 1) = outOf 16384 49151 (f p 0x18)
          ∧ t.port.phaseClamps.getLsbD (4 * p.val + 2) = decide (f p 0x1C < f p 0x1A)
          ∧ t.port.phaseClamps.getLsbD (4 * p.val + 3) = false)
        ∧ (∀ i : Fin 16, t.port.stripClamps.getLsbD i.val =
          [outOf 0 500 (w 0x36), outOf 1000 65000 (w 0x38), outOf 100 32000 (w 0x3A), outOf 0 5000 (w 0x3C),
            outOf 1 3600 (w 0x3E), outOf 5 3600 (w 0x40)].getD i.val false)
        ∧ t.port.phaseClamps.toNat < 4096
        ∧ t.port.stripService.count = s.port.stripService.count + 1
        ∧ t.port.stripService.result
          = (if t.port.stripClamps = 0 ∧ t.port.phaseClamps = 0 then .ok else .clamped))

/-- REARM_WATCH and CLEAR_FAULT end OK with their effect; a value that names no service ends BAD_SERVICE with no
other effect; each counts its service word (R65, R160, R179). -/
def Obligations.OtherServices : Prop :=
  ∀ s : State, Ready s →
    (∀ o : OutletIx, ∃ t, exec (.rearmWatch o) s = .next t ∧ Only [.watch, .port] s t
      ∧ SameElse o s.watch.outlets t.watch.outlets ∧ t.watch.kickWord = s.watch.kickWord
      ∧ (t.owatch o).attempts = 0 ∧ (t.owatch o).healthy = 0
      ∧ ((s.owatch o).state = .disabled → (t.owatch o).state = .disabled)
      ∧ ((s.owatch o).state = .givenUp → (t.owatch o).quiet = 0 ∧ (t.owatch o).resume = .watching
        ∧ (powered s o = true → watchPlanActive s o = false → (t.owatch o).state = .watching)
        ∧ (powered s o = false → watchPlanActive s o = false → (t.owatch o).state = .idle))
      ∧ t.port = { s.port with outletService := upd s.port.outletService o fun x =>
          { count := x.count + 1, result := .ok } })
    ∧ (∀ o : OutletIx, ∃ t, exec (.clearFault o) s = .next t ∧ Only [.relay, .port] s t
      ∧ SameElse o s.relay t.relay
      ∧ t.relay[o] = { s.relay[o] with
        position := if s.position o = .faultStuckOpen ∨ s.position o = .faultStuckClosed then .unknown
          else s.position o }
      ∧ t.port = { s.port with outletService := upd s.port.outletService o fun x =>
          { count := x.count + 1, result := .ok } })
    ∧ (∀ (w : ServiceWord) (v : Word), WellFormed (.unknownService w v) = true →
      ∃ t, exec (.unknownService w v) s = .next t ∧ Only [.port] s t
        ∧ (∀ o, w = .outlet o → t.port = { s.port with outletService := upd s.port.outletService o fun x =>
          { count := x.count + 1, result := .badService } })
        ∧ (∀ b, w = .branch b → t.port = { s.port with branchService := upd s.port.branchService b fun x =>
          { count := x.count + 1, result := .badService } })
        ∧ (w = .strip → t.port = { s.port with
          stripService := { count := s.port.stripService.count + 1, result := .badService } }))

/-! ### Control port -/

/-- A CONTROL write without WARM takes its attention mode and its RUN bit: STOPPED to RUNNING with every deadline
resumed from where it paused, but on a DEAD branch, and a dispatch pass; RUNNING to STOPPED with every entry waiting
as STOPPED, every deadline paused and no first closing left in AIMING, each withdrawal with a pass; or no change of
the run state. The first RUNNING requests the power-on policy: ON for every outlet at OPEN, OPEN_UNVERIFIED or UNKNOWN
without a plan, OFF at CLOSED, CLOSED_UNVERIFIED, UNKNOWN or FAULT_STUCK_OPEN, whose openings are pulsed at once on a
DEAD or RETURNING branch; an outlet that has a plan, one at a position that needs no change or is at a fault that
refuses it, and one with policy KEEP receive no plan. A change of mode ends a pulse (R74, R89, R90, R118, R145, R182,
R183, R192). That each row acts as the one CONTROL write that its value is, the mode before the RUN bit (log 17), and
that the later of the two values of a new admission deadline is found by the entry's age modulo 2 to the 32 (log 10),
is the model's choice; that the opening pulsed at once on a RETURNING branch has aim IMMEDIATE is DEDUCED (log 22). -/
def Obligations.ControlTakesRunAndMode : Prop :=
  ∀ (s : State) (v : Word), Ready s → v.getLsbD 1 = false →
    (∀ c, ((c = .runSet v ∧ v.getLsbD 0 = true) ∨ (c = .runClear v ∧ v.getLsbD 0 = false)
        ∨ c = .attentionMode v ∨ c = .hostWrite (.control 1) v) →
      ∃ t, exec c s = .next t ∧ t.port.running = v.getLsbD 0
        ∧ t.port.mode = (if v.getLsbD 3 = true then .pulse else if v.getLsbD 2 = true then .levelHigh else .levelLow)
        ∧ t.line = s.line ∧ (∀ b, (t.gbranch b).state = (s.gbranch b).state) ∧ t.settings = s.settings
        ∧ t.xm = s.xm
        ∧ (∀ o, t.position o = s.position o)
        ∧ (s.port.running = v.getLsbD 0 → Only [.port, .notices] s t
          ∧ t.notices.sources = s.notices.sources
          ∧ t.notices.pulseUntil = (if t.port.mode = s.port.mode then s.notices.pulseUntil else none))
        ∧ (s.port.running = false → v.getLsbD 0 = true → t.plans.policyDone = true
          ∧ (s.plans.policyDone = true → ∀ o, (t.plan o).isSome = (s.plan o).isSome)
          ∧ (s.plans.policyDone = false → ∀ o, (s.ocfg o).policy = .on → s.plan o = none →
            (s.position o = .open ∨ s.position o = .openUnverified ∨ s.position o = .unknown) →
            (∃ p, t.plan o = some p ∧ p.kind = .on ∧ p.origin = .policy)
              ∧ (s.entry o = none → s.op o = none → o ∉ s.sched.retry → Queued o .close .policy s.ms t))
          ∧ (s.plans.policyDone = false → ∀ o, (s.ocfg o).policy = .off → s.plan o = none → s.entry o = none →
            s.op o = none → o ∉ s.sched.retry → (s.position o = .closed ∨ s.position o = .closedUnverified
              ∨ s.position o = .unknown ∨ s.position o = .faultStuckOpen) →
            Queued o .open .policy s.ms t ∧ (∃ p, t.plan o = some p ∧ p.kind = .off ∧ p.origin = .policy)
              ∧ ((s.branchStateOf o = .dead ∨ s.branchStateOf o = .returning) →
                ∀ q, t.op o = some q → q.aim = .immediate ∧ q.pulseDue = true))
          ∧ (∀ o, s.plan o = none → ((s.ocfg o).policy = .keep
              ∨ ((s.ocfg o).policy = .on ∧ (isClosed (s.position o) = true ∨ isFault (s.position o) = true))
              ∨ ((s.ocfg o).policy = .off ∧ (s.position o = .open ∨ s.position o = .openUnverified
                ∨ s.position o = .faultStuckClosed))) → t.plan o = none ∧ t.slot o = s.slot o)
          ∧ (∀ o, s.plan o ≠ none → t.plan o ≠ none ∧ t.slot o = s.slot o))
        ∧ (s.port.running = false → v.getLsbD 0 = true → PassLeft t ∧ OpeningGranted (!s.plans.policyDone) s t
          ∧ ∀ o e f, s.entry o = some e → t.entry o = some f → e.direction = .close → s.plan o ≠ none →
            f = { (if s.branchStateOf o = .dead then pausedEntry s e else resumedEntry s e) with wait := f.wait })
        ∧ (s.port.running = true → v.getLsbD 0 = false →
          (∀ o e, s.entry o = some e → e.direction = .close → s.op o = none →
            t.entry o = some { pausedEntry s e with wait := .stopped })
          ∧ (∀ o e, t.entry o = some e → e.wait = .stopped ∧ e.pausedSince ≠ none)
          ∧ (∀ o q, t.op o = some q → q.stage = .aiming → q.direction = .open ∨ q.attempt = .second)
          ∧ (∀ o q, s.op o = some q → q.stage = .aiming → q.direction = .close → q.attempt = .first → PassLeft t)))

/-- A warm reset stops the strip and keeps the attention mode; every plan without a running pulse ends RESET with
OP_DONE and its operation; a running pulse is only marked; an active group ends RESET; overloads end; the watch
attempts clear; a capture ends RESET, a running one with its slot in flight; on a branch that is not overloaded an
operation before its pulse gives back the position it had at dispatch, and one after it leaves its commanded position
unverified; the pending and taken sets, the condition records and the re-raise timers are emptied, so that only the
OP_DONE, GROUP_DONE and CAPTURE_ENDED that the warm reset itself raises are pending; an outlet whose plan ended is
released where R137 has it so. A dispatch pass is made on the freed reservations. The line, the meter, the records,
the settings, exchange memory and the whole control port but the run state are kept; of the schedule the ranks,
pointers, last closing starts, hold-off expiries and recent-closings lists; of the guard the senses, the debounce and
return timers and the marks, but for the release mark of an outlet released; of the watch the count holds, last kicks
and the kick word; of the plans policy done, the last refusals and the slots of outlets without a plan; and the
rotations and flashing patterns (R18, R46, R68, R74, R95, R121, R146, R165, R174, R184, R194; the order of the steps:
log 15). -/
def Obligations.WarmResetEndsWork : Prop :=
  ∀ (s : State) (v : Word), Ready s → Coupled s → v.getLsbD 1 = true →
    ∃ t, exec (.warmReset v) s = .next t ∧ t.port = { s.port with running := false } ∧ PassLeft t
      ∧ Only [.relay, .sched, .plans, .guard, .watch, .capture, .notices, .port] s t
      ∧ t.sched = { s.sched with entries := t.sched.entries, retry := [], inAim := none }
      ∧ t.plans.policyDone = s.plans.policyDone
      ∧ (∀ o : OutletIx, t.relay[o].history = s.relay[o].history ∧ t.relay[o].sense = s.relay[o].sense
        ∧ t.relay[o].status = s.relay[o].status)
      ∧ (∀ o p, s.op o = some p → p.stage = .pulsing → t.op o = some { p with abandoned := true }
        ∧ (t.plan o).isSome = true ∧ t.slot o = s.slot o)
      ∧ (∀ o p, s.op o = some p → p.stage ≠ .pulsing → t.op o = none)
      ∧ (∀ o, s.plan o ≠ none → isPulsing s o = false → PlanOver o .reset s t)
      ∧ (∀ o, s.plan o = none → t.plan o = none ∧ t.entry o = none ∧ t.slot o = s.slot o)
      ∧ (∀ o, (t.slot o).refusal = (s.slot o).refusal ∧ (t.slot o).refusalTag = (s.slot o).refusalTag)
      ∧ (s.plans.group.status = .active → Pends t stripSource causeGroupDone
        ∧ t.plans.group = { s.plans.group with
          failed := s.plans.group.failed
            + (allOutlets.filter fun o => (s.plan o).any (fun p => p.groupMember) && !isPulsing s o).length
          status := .ended, result := .reset, endSec := s.line.seconds })
      ∧ (s.plans.group.status ≠ .active → t.plans.group = s.plans.group)
      ∧ (∀ b, ((s.gbranch b).state = .overload ∨ (s.gbranch b).state = .shedding) →
        t.gbranch b = { s.gbranch b with
          state := .live, overloadRun := 0, shedPhase := .none, shedOutlet := none, stepCount := 0
          restoreHold := none })
      ∧ (∀ b, (s.gbranch b).state ≠ .overload → (s.gbranch b).state ≠ .shedding →
        (s.gbranch b).shedPhase ≠ .planRunning → t.gbranch b = { s.gbranch b with restoreHold := none })
      ∧ (∀ b, (s.gbranch b).state ≠ .overload → (s.gbranch b).state ≠ .shedding →
        (t.gbranch b).state = (s.gbranch b).state ∧ (t.gbranch b).restoreHold = none)
      ∧ (∀ o, (t.marks o).shed = (s.marks o).shed)
      ∧ (∀ o, (s.plan o = none ∨ isPulsing s o = true ∨ ¬ Releases t o) → t.marks o = s.marks o)
      ∧ t.watch.kickWord = s.watch.kickWord
      ∧ (∀ o, (t.owatch o).hold = (s.owatch o).hold ∧ (t.owatch o).lastKick = (s.owatch o).lastKick)
      ∧ (∀ o, (s.owatch o).state ≠ .disabled → (t.owatch o).attempts = 0 ∧ (t.owatch o).healthy = 0
        ∧ (t.owatch o).grace = 0 ∧ (t.owatch o).quiet = 0
        ∧ ((s.owatch o).state ≠ .recovering → (t.owatch o).state ≠ .grace) ∧ (t.owatch o).state ≠ .disabled)
      ∧ (∀ o, (s.owatch o).state = .disabled → t.owatch o = s.owatch o)
      ∧ (s.capture.state = .armed → Pends t stripSource causeCaptureEnded
        ∧ t.capture = { s.capture with
          state := .aborted, endReason := .reset, armedFrom := none, abortPending := none })
      ∧ (s.capture.state = .running → s.capture.abortPending = none →
        (slotTaken s = true → t.capture = { s.capture with abortPending := some .reset })
        ∧ (slotTaken s = false → Pends t stripSource causeCaptureEnded
          ∧ t.capture = { s.capture with
            state := .aborted, endReason := .reset, armedFrom := none, abortPending := none }))
      ∧ ((s.capture.state = .idle ∨ s.capture.state = .done ∨ s.capture.state = .aborted
        ∨ (s.capture.state = .running ∧ s.capture.abortPending ≠ none)) → t.capture = s.capture)
      ∧ (∀ o, s.branchStateOf o ≠ .overload → s.branchStateOf o ≠ .shedding →
        (s.op o = none → t.position o = s.position o)
        ∧ ∀ p, s.op o = some p →
          ((p.stage = .aiming ∨ p.stage = .retryWait) → t.position o = p.dispatchPosition)
          ∧ ((p.stage = .settling ∨ p.stage = .verifying) → t.position o = unverified p.direction)
          ∧ (p.stage = .pulsing → t.position o = s.position o))
      ∧ (∀ src, (t.notice src).taken = 0 ∧ (t.notice src).held = 0 ∧ ∀ c : CauseBit, (t.notice src).timers[c] = 0)
      ∧ (∀ p, (t.notice (phaseSource p)).pending = 0) ∧ (∀ b, (t.notice (branchSource b)).pending = 0)
      ∧ (∀ o c, Pends t (outletSource o) c ↔ c = causeOpDone ∧ s.plan o ≠ none ∧ isPulsing s o = false)
      ∧ (∀ c, Pends t stripSource c ↔ (c = causeGroupDone ∧ s.plans.group.status = .active)
        ∨ (c = causeCaptureEnded ∧ (s.capture.state = .armed
          ∨ (s.capture.state = .running ∧ s.capture.abortPending = none ∧ slotTaken s = false))))
      ∧ t.notices.branchRotation = s.notices.branchRotation ∧ t.notices.outletRotation = s.notices.outletRotation
      ∧ t.notices.flash = s.notices.flash

/-- Every host write to the part. To a word that is not watched it is stored in a host-owned field and dropped anywhere
else; to a watched word it is the command that its value names; to CONTROL it is a warm reset or a CONTROL write
without one, and to any other register it is dropped. A host read returns the stored word of a host-owned field and of
the capture area, the part's fields by the layouts of the records, and 0 at every place that no layout assigns (R175 to
R179, R182). That a watched word's write has its effect at once as that command, and that a row of CONTROL acts by its
value, is the model's choice (log 17). -/
def Obligations.HostWriteStoresHostOwned : Prop :=
  (∀ (s : State) (v : Word), Ready s → MemoryCanonical s →
    (∀ w : BitVec 13, WellFormed (.hostWrite (.xm w) v) = true → hostOwned (2 * w.toNat) = true →
      ∃ t, exec (.hostWrite (.xm w) v) s = .next t ∧ Only [.xm] s t ∧ readXm t (2 * w.toNat) = v
        ∧ ∀ a, a ≠ 2 * w.toNat → a ≠ 2 * w.toNat + 1 → Memory.read t.xm a = Memory.read s.xm a)
    ∧ (∀ w : BitVec 13, WellFormed (.hostWrite (.xm w) v) = true → hostOwned (2 * w.toNat) = false →
      exec (.hostWrite (.xm w) v) s = .next s)
    ∧ (∀ r : BitVec 2, r ≠ 1 → exec (.hostWrite (.control r) v) s = .next s)
    ∧ (v.getLsbD 1 = false → ∃ t, exec (.hostWrite (.control 1) v) s = .next t
      ∧ t.port.running = v.getLsbD 0 ∧ exec (.attentionMode v) s = .next t)
    ∧ (v.getLsbD 1 = true → ∃ t, exec (.hostWrite (.control 1) v) s = .next t
      ∧ t.port.running = false ∧ exec (.warmReset v) s = .next t))
  ∧ (∀ (s : State) (v : Word),
    (∀ o : OutletIx, exec (writeAt (outletBase o + 0x40) v) s = exec (postingOf o v) s
      ∧ exec (writeAt (outletBase o + 0x5A) v) s = exec (outletServiceOf o v) s)
    ∧ (∀ b : BranchIx, exec (writeAt (branchBase b + 0x3C) v) s = exec (branchServiceOf b v) s)
    ∧ exec (writeAt 0x52 v) s = exec (stripServiceOf v) s ∧ exec (writeAt 0x58 v) s = exec (.kick v) s
    ∧ exec (writeAt 0x5A v) s = exec (groupPostingOf v) s
    ∧ exec (writeAt 0x86 v) s = exec (captureCommandOf v) s)
  ∧ ((∀ (o : OutletIx) (r : Fin 128), hostOwned (outletBase o + r.val) = true ↔
      (0x42 ≤ r.val ∧ r.val ≤ 0x45) ∨ (0x5E ≤ r.val ∧ r.val ≤ 0x7B))
    ∧ (∀ (b : BranchIx) (r : Fin 64), hostOwned (branchBase b + r.val) = true ↔ 0x28 ≤ r.val ∧ r.val ≤ 0x3B)
    ∧ (∀ (p : PhaseIx) (r : Fin 64), hostOwned (phaseBase p + r.val) = true ↔ 0x16 ≤ r.val ∧ r.val ≤ 0x1D)
    ∧ (∀ r : Fin 256, hostOwned r.val = true ↔ (0x36 ≤ r.val ∧ r.val ≤ 0x43) ∨ (0x5C ≤ r.val ∧ r.val ≤ 0x63)
      ∨ (0x7C ≤ r.val ∧ r.val ≤ 0x85))
    ∧ (∀ a, (0x1C0 ≤ a ∧ a < 0x200 ∨ 0x380 ≤ a ∧ a < 0x400 ∨ 0x1C00 ≤ a) → hostOwned a = false))
  ∧ (∀ s : State, s.resetHeld = false →
    (∀ a, (hostOwned a = true ∨ 0x2000 ≤ a) → readXm s a = Memory.word s.xm a)
    ∧ (∀ a, (0x1C0 ≤ a ∧ a < 0x200 ∨ 0x380 ≤ a ∧ a < 0x400 ∨ 0x1C00 ≤ a ∧ a < 0x2000) → readXm s a = 0)
    ∧ (∀ o : OutletIx, ReadsAs s (outletBase o) 128 (outletLayout s o))
    ∧ (∀ b : BranchIx, ReadsAs s (branchBase b) 64 (branchLayout s b))
    ∧ (∀ p : PhaseIx, ReadsAs s (phaseBase p) 64 (phaseLayout s p))
    ∧ ReadsAs s 0 256 (stripLayout s))
  ∧ CodesAsTabled

/-! ### Notice Unit -/

/-- The control port's registers read the device code, the run state with the attention mode, and the run state with
the tracker state, converter health and the number of candidates; the value of the last POLL read stands in the
model's own field (R182; log 18). A POLL read with no candidate returns 0; otherwise it chooses a candidate of the
first class that has one, returns its rank with its enabled pending causes, takes them, keeps the level causes among
them as taken with their timers at 0, and moves the rotation of its class (R186, R189). -/
def Obligations.PollTakesNotice : Prop :=
  ∀ s : State, Ready s →
    (readRegister s 0 = 0x6481
      ∧ (readRegister s 1).toNat = (if s.port.running then 1 else 0)
        + (match s.port.mode with | .levelLow => 0 | .levelHigh => 4 | .pulse => 8)
      ∧ (readRegister s 2).toNat = (if s.port.running then 1 else 0)
        + (match s.line.tracker with | .searching => 0 | .locked => 2 | .holdover => 4)
        + (if s.line.stale then 8 else 0) + 16 * (allSources.filter fun src => isCandidate s src).length
      ∧ readRegister s 3 = s.port.pollValue)
    ∧ ((∀ src, isCandidate s src = false) →
      ∃ t, exec .pollRead s = .next t ∧ Only [.port] s t ∧ t.port = { s.port with pollValue := 0 })
    ∧ (∀ x, isCandidate s x = true → ∃ t src, exec .pollRead s = .next t ∧ Only [.notices, .port] s t
      ∧ isCandidate s src = true
      ∧ (src.val < 4 → ∀ y, isCandidate s y = true → src ≤ y)
      ∧ (4 ≤ src.val → ∀ y : SourceIx, y.val < 4 → isCandidate s y = false)
      ∧ (10 ≤ src.val → ∀ y : SourceIx, y.val < 10 → isCandidate s y = false)
      ∧ t.port = { s.port with
          pollValue := 0x8000#16 ||| BitVec.ofNat 16 (256 * src.val)
            ||| ((s.notice src).pending &&& enableOf s src).zeroExtend 16 }
      ∧ (t.notice src).pending = (s.notice src).pending &&& ~~~enableOf s src
      ∧ (t.notice src).taken
        = (s.notice src).taken ||| ((s.notice src).pending &&& enableOf s src &&& levelMask src)
      ∧ (t.notice src).held = (s.notice src).held
      ∧ (∀ c : CauseBit, ((s.notice src).pending &&& enableOf s src &&& levelMask src).getLsbD c.val = true →
        (t.notice src).timers[c] = 0)
      ∧ (∀ y, y ≠ src → t.notice y = s.notice y)
      ∧ (src.val < 4 → t.notices.branchRotation = s.notices.branchRotation
        ∧ t.notices.outletRotation = s.notices.outletRotation)
      ∧ (∀ b, src = branchSource b → t.notices.branchRotation = b
        ∧ t.notices.outletRotation = s.notices.outletRotation
        ∧ ∀ y, isCandidate s (branchSource y) = true →
          b - s.notices.branchRotation - 1 ≤ y - s.notices.branchRotation - 1)
      ∧ (∀ o, src = outletSource o → t.notices.outletRotation = o
        ∧ t.notices.branchRotation = s.notices.branchRotation
        ∧ ∀ y, isCandidate s (outletSource y) = true →
          o - s.notices.outletRotation - 1 ≤ y - s.notices.outletRotation - 1))

/-- A re-raise that the tick declared makes a taken cause pending again and stops its timer. In PULSE mode a re-raise,
a raise, a condition that begins to hold and an APPLY of an outlet, a branch or the strip that enables a pending cause
each drive the attention line low for 17 counts when they make an enabled cause pending that was not; none does in a
level mode, for a disabled cause or for one already pending. The attention pulse ends when its counts have passed; the
flashing patterns follow strip milliseconds. The attention line is asserted while a source holds an enabled pending
cause, in PULSE mode while a pulse runs, low but in LEVEL_HIGH (R187, R188, R191); an outlet's LED shows the first of
locate, fault, stalled watch, plan in progress and closed relay that holds, a branch's LED its branch state (R190,
R192, R195). That a re-raise waits in a list for its own command is the model's choice (log 7), and so is that a
command before its moment, or undeclared, changes nothing (log 2). -/
def Obligations.NoticeEventsAct : Prop :=
  ∀ s : State, s.resetHeld = false →
    ((s.port.mode = .levelLow → (attentionLine s = false ↔ ∃ src, isCandidate s src = true))
      ∧ (s.port.mode = .levelHigh → (attentionLine s = true ↔ ∃ src, isCandidate s src = true))
      ∧ (s.port.mode = .pulse → (attentionLine s = false ↔ s.notices.pulseUntil ≠ none))
      ∧ (∀ o, outletLed s o =
        if (s.ocfg o).locate then s.notices.flash.locate
        else if s.position o = .faultStuckOpen ∨ s.position o = .faultStuckClosed then s.notices.flash.fault
        else if (s.owatch o).state = .stalled ∨ (s.owatch o).state = .givenUp then s.notices.flash.stall
        else if (s.plan o).isSome then s.notices.flash.plan
        else decide (s.position o = .closed ∨ s.position o = .closedUnverified))
      ∧ ∀ b, branchLed s b = match (s.gbranch b).state with
        | .live => true
        | .overload | .shedding => s.notices.flash.plan
        | .returning => s.notices.flash.stall
        | .dead => false)
    ∧ (∀ src c, TickEvent.reRaise src c ∈ s.tickDue → (s.notice src).taken.getLsbD c.val = true →
      ∃ t, exec (.reRaise src c) s = .next t ∧ Only [.notices, .tickDue] s t
        ∧ t.tickDue = s.tickDue.erase (.reRaise src c) ∧ Pends t src c
        ∧ (t.notice src).taken.getLsbD c.val = false ∧ (t.notice src).timers[c] = 0
        ∧ (t.notice src).held = (s.notice src).held ∧ (∀ y, y ≠ src → t.notice y = s.notice y)
        ∧ PulseFollows src c s t)
    ∧ (s.tickDue = [] → (∀ o v, WellFormed (.postingUnknownKind o v) = true →
        ∃ t, exec (.postingUnknownKind o v) s = .next t ∧ PulseFollows (outletSource o) causeOpRefused s t)
      ∧ (∀ d, s.line.tracker = .locked → s.line.deadline = some d → d ≤ s.now → s.line.closePending = none →
        ¬ Holds s stripSource causeLineHoldover →
        ∃ t, exec .edgeDeadlineExpiry s = .next t ∧ PulseFollows stripSource causeLineHoldover s t)
      ∧ (∀ o : OutletIx, ∃ t, exec (.outletApply o) s = .next t
        ∧ ApplyPulse (outletSource o) (s.ocfg o).enable s t)
      ∧ (∀ b : BranchIx, ∃ t, exec (.branchApply b) s = .next t
        ∧ ((t.gbranch b).state = (s.gbranch b).state → (t.gbranch b).returnFrom = (s.gbranch b).returnFrom →
          ApplyPulse (branchSource b) (s.bcfg b).enable s t)
        ∧ (s.port.mode = .pulse → (∃ c : CauseBit, Pends s (branchSource b) c
            ∧ (t.bcfg b).enable.getLsbD c.val = true ∧ (s.bcfg b).enable.getLsbD c.val = false) →
          t.notices.pulseUntil = some (s.now + 17) ∧ attentionLine t = false))
      ∧ ∃ t, exec .stripApply s = .next t ∧ ApplyPulse stripSource s.settings.strip.enable s t)
    ∧ (∀ src c, TickEvent.reRaise src c ∉ s.tickDue → exec (.reRaise src c) s = .next s)
    ∧ (∀ d, s.tickDue = [] → s.notices.pulseUntil = some d → d ≤ s.now →
      ∃ t, exec .attentionPulseEnd s = .next t ∧ Only [.notices] s t
        ∧ t.notices = { s.notices with pulseUntil := none }
        ∧ (s.port.mode = .pulse → attentionLine t = true))
    ∧ (s.tickDue = [] → (∀ d, s.notices.pulseUntil = some d → s.now < d) →
      exec .attentionPulseEnd s = .next s)
    ∧ (s.tickDue = [] → ∃ t, exec .flashingPatternTransition s = .next t ∧ Only [.notices] s t
      ∧ t.notices = { s.notices with flash :=
          { locate := decide (s.ms.toNat % 250 < 125), fault := decide (s.ms.toNat % 2000 < 250)
            stall := decide (s.ms.toNat % 2000 < 500), plan := decide (s.ms.toNat % 1000 < 500) } })
end

