-- ==== Sys2Proof/Laws/State.lean ====
section
/-! SUPPORT. One lemma for each field under each update of one block of the state, and what a read of a table
gives after an update of one of its entries. -/

namespace Sys2Proof.Machine

variable (s : State)

section
variable (f : Line → Line)
@[simp] theorem State.updLine_now : (s.updLine f).now = s.now := rfl
@[simp] theorem State.updLine_resetHeld : (s.updLine f).resetHeld = s.resetHeld := rfl
@[simp] theorem State.updLine_line : (s.updLine f).line = f s.line := rfl
@[simp] theorem State.updLine_meter : (s.updLine f).meter = s.meter := rfl
@[simp] theorem State.updLine_records : (s.updLine f).records = s.records := rfl
@[simp] theorem State.updLine_relay : (s.updLine f).relay = s.relay := rfl
@[simp] theorem State.updLine_sched : (s.updLine f).sched = s.sched := rfl
@[simp] theorem State.updLine_plans : (s.updLine f).plans = s.plans := rfl
@[simp] theorem State.updLine_guard : (s.updLine f).guard = s.guard := rfl
@[simp] theorem State.updLine_watch : (s.updLine f).watch = s.watch := rfl
@[simp] theorem State.updLine_capture : (s.updLine f).capture = s.capture := rfl
@[simp] theorem State.updLine_notices : (s.updLine f).notices = s.notices := rfl
@[simp] theorem State.updLine_port : (s.updLine f).port = s.port := rfl
@[simp] theorem State.updLine_settings : (s.updLine f).settings = s.settings := rfl
@[simp] theorem State.updLine_xm : (s.updLine f).xm = s.xm := rfl
@[simp] theorem State.updLine_tickDue : (s.updLine f).tickDue = s.tickDue := rfl
@[simp] theorem State.updLine_pending : (s.updLine f).pending = s.pending := rfl
end

section
variable (f : Meter → Meter)
@[simp] theorem State.updMeter_now : (s.updMeter f).now = s.now := rfl
@[simp] theorem State.updMeter_resetHeld : (s.updMeter f).resetHeld = s.resetHeld := rfl
@[simp] theorem State.updMeter_line : (s.updMeter f).line = s.line := rfl
@[simp] theorem State.updMeter_meter : (s.updMeter f).meter = f s.meter := rfl
@[simp] theorem State.updMeter_records : (s.updMeter f).records = s.records := rfl
@[simp] theorem State.updMeter_relay : (s.updMeter f).relay = s.relay := rfl
@[simp] theorem State.updMeter_sched : (s.updMeter f).sched = s.sched := rfl
@[simp] theorem State.updMeter_plans : (s.updMeter f).plans = s.plans := rfl
@[simp] theorem State.updMeter_guard : (s.updMeter f).guard = s.guard := rfl
@[simp] theorem State.updMeter_watch : (s.updMeter f).watch = s.watch := rfl
@[simp] theorem State.updMeter_capture : (s.updMeter f).capture = s.capture := rfl
@[simp] theorem State.updMeter_notices : (s.updMeter f).notices = s.notices := rfl
@[simp] theorem State.updMeter_port : (s.updMeter f).port = s.port := rfl
@[simp] theorem State.updMeter_settings : (s.updMeter f).settings = s.settings := rfl
@[simp] theorem State.updMeter_xm : (s.updMeter f).xm = s.xm := rfl
@[simp] theorem State.updMeter_tickDue : (s.updMeter f).tickDue = s.tickDue := rfl
@[simp] theorem State.updMeter_pending : (s.updMeter f).pending = s.pending := rfl
end

section
variable (f : Records → Records)
@[simp] theorem State.updRecords_now : (s.updRecords f).now = s.now := rfl
@[simp] theorem State.updRecords_resetHeld : (s.updRecords f).resetHeld = s.resetHeld := rfl
@[simp] theorem State.updRecords_line : (s.updRecords f).line = s.line := rfl
@[simp] theorem State.updRecords_meter : (s.updRecords f).meter = s.meter := rfl
@[simp] theorem State.updRecords_records : (s.updRecords f).records = f s.records := rfl
@[simp] theorem State.updRecords_relay : (s.updRecords f).relay = s.relay := rfl
@[simp] theorem State.updRecords_sched : (s.updRecords f).sched = s.sched := rfl
@[simp] theorem State.updRecords_plans : (s.updRecords f).plans = s.plans := rfl
@[simp] theorem State.updRecords_guard : (s.updRecords f).guard = s.guard := rfl
@[simp] theorem State.updRecords_watch : (s.updRecords f).watch = s.watch := rfl
@[simp] theorem State.updRecords_capture : (s.updRecords f).capture = s.capture := rfl
@[simp] theorem State.updRecords_notices : (s.updRecords f).notices = s.notices := rfl
@[simp] theorem State.updRecords_port : (s.updRecords f).port = s.port := rfl
@[simp] theorem State.updRecords_settings : (s.updRecords f).settings = s.settings := rfl
@[simp] theorem State.updRecords_xm : (s.updRecords f).xm = s.xm := rfl
@[simp] theorem State.updRecords_tickDue : (s.updRecords f).tickDue = s.tickDue := rfl
@[simp] theorem State.updRecords_pending : (s.updRecords f).pending = s.pending := rfl
end

section
variable (f : Sched → Sched)
@[simp] theorem State.updSched_now : (s.updSched f).now = s.now := rfl
@[simp] theorem State.updSched_resetHeld : (s.updSched f).resetHeld = s.resetHeld := rfl
@[simp] theorem State.updSched_line : (s.updSched f).line = s.line := rfl
@[simp] theorem State.updSched_meter : (s.updSched f).meter = s.meter := rfl
@[simp] theorem State.updSched_records : (s.updSched f).records = s.records := rfl
@[simp] theorem State.updSched_relay : (s.updSched f).relay = s.relay := rfl
@[simp] theorem State.updSched_sched : (s.updSched f).sched = f s.sched := rfl
@[simp] theorem State.updSched_plans : (s.updSched f).plans = s.plans := rfl
@[simp] theorem State.updSched_guard : (s.updSched f).guard = s.guard := rfl
@[simp] theorem State.updSched_watch : (s.updSched f).watch = s.watch := rfl
@[simp] theorem State.updSched_capture : (s.updSched f).capture = s.capture := rfl
@[simp] theorem State.updSched_notices : (s.updSched f).notices = s.notices := rfl
@[simp] theorem State.updSched_port : (s.updSched f).port = s.port := rfl
@[simp] theorem State.updSched_settings : (s.updSched f).settings = s.settings := rfl
@[simp] theorem State.updSched_xm : (s.updSched f).xm = s.xm := rfl
@[simp] theorem State.updSched_tickDue : (s.updSched f).tickDue = s.tickDue := rfl
@[simp] theorem State.updSched_pending : (s.updSched f).pending = s.pending := rfl
end

section
variable (f : Plans → Plans)
@[simp] theorem State.updPlans_now : (s.updPlans f).now = s.now := rfl
@[simp] theorem State.updPlans_resetHeld : (s.updPlans f).resetHeld = s.resetHeld := rfl
@[simp] theorem State.updPlans_line : (s.updPlans f).line = s.line := rfl
@[simp] theorem State.updPlans_meter : (s.updPlans f).meter = s.meter := rfl
@[simp] theorem State.updPlans_records : (s.updPlans f).records = s.records := rfl
@[simp] theorem State.updPlans_relay : (s.updPlans f).relay = s.relay := rfl
@[simp] theorem State.updPlans_sched : (s.updPlans f).sched = s.sched := rfl
@[simp] theorem State.updPlans_plans : (s.updPlans f).plans = f s.plans := rfl
@[simp] theorem State.updPlans_guard : (s.updPlans f).guard = s.guard := rfl
@[simp] theorem State.updPlans_watch : (s.updPlans f).watch = s.watch := rfl
@[simp] theorem State.updPlans_capture : (s.updPlans f).capture = s.capture := rfl
@[simp] theorem State.updPlans_notices : (s.updPlans f).notices = s.notices := rfl
@[simp] theorem State.updPlans_port : (s.updPlans f).port = s.port := rfl
@[simp] theorem State.updPlans_settings : (s.updPlans f).settings = s.settings := rfl
@[simp] theorem State.updPlans_xm : (s.updPlans f).xm = s.xm := rfl
@[simp] theorem State.updPlans_tickDue : (s.updPlans f).tickDue = s.tickDue := rfl
@[simp] theorem State.updPlans_pending : (s.updPlans f).pending = s.pending := rfl
end

section
variable (f : Guard → Guard)
@[simp] theorem State.updGuard_now : (s.updGuard f).now = s.now := rfl
@[simp] theorem State.updGuard_resetHeld : (s.updGuard f).resetHeld = s.resetHeld := rfl
@[simp] theorem State.updGuard_line : (s.updGuard f).line = s.line := rfl
@[simp] theorem State.updGuard_meter : (s.updGuard f).meter = s.meter := rfl
@[simp] theorem State.updGuard_records : (s.updGuard f).records = s.records := rfl
@[simp] theorem State.updGuard_relay : (s.updGuard f).relay = s.relay := rfl
@[simp] theorem State.updGuard_sched : (s.updGuard f).sched = s.sched := rfl
@[simp] theorem State.updGuard_plans : (s.updGuard f).plans = s.plans := rfl
@[simp] theorem State.updGuard_guard : (s.updGuard f).guard = f s.guard := rfl
@[simp] theorem State.updGuard_watch : (s.updGuard f).watch = s.watch := rfl
@[simp] theorem State.updGuard_capture : (s.updGuard f).capture = s.capture := rfl
@[simp] theorem State.updGuard_notices : (s.updGuard f).notices = s.notices := rfl
@[simp] theorem State.updGuard_port : (s.updGuard f).port = s.port := rfl
@[simp] theorem State.updGuard_settings : (s.updGuard f).settings = s.settings := rfl
@[simp] theorem State.updGuard_xm : (s.updGuard f).xm = s.xm := rfl
@[simp] theorem State.updGuard_tickDue : (s.updGuard f).tickDue = s.tickDue := rfl
@[simp] theorem State.updGuard_pending : (s.updGuard f).pending = s.pending := rfl
end

section
variable (f : Watch → Watch)
@[simp] theorem State.updWatch_now : (s.updWatch f).now = s.now := rfl
@[simp] theorem State.updWatch_resetHeld : (s.updWatch f).resetHeld = s.resetHeld := rfl
@[simp] theorem State.updWatch_line : (s.updWatch f).line = s.line := rfl
@[simp] theorem State.updWatch_meter : (s.updWatch f).meter = s.meter := rfl
@[simp] theorem State.updWatch_records : (s.updWatch f).records = s.records := rfl
@[simp] theorem State.updWatch_relay : (s.updWatch f).relay = s.relay := rfl
@[simp] theorem State.updWatch_sched : (s.updWatch f).sched = s.sched := rfl
@[simp] theorem State.updWatch_plans : (s.updWatch f).plans = s.plans := rfl
@[simp] theorem State.updWatch_guard : (s.updWatch f).guard = s.guard := rfl
@[simp] theorem State.updWatch_watch : (s.updWatch f).watch = f s.watch := rfl
@[simp] theorem State.updWatch_capture : (s.updWatch f).capture = s.capture := rfl
@[simp] theorem State.updWatch_notices : (s.updWatch f).notices = s.notices := rfl
@[simp] theorem State.updWatch_port : (s.updWatch f).port = s.port := rfl
@[simp] theorem State.updWatch_settings : (s.updWatch f).settings = s.settings := rfl
@[simp] theorem State.updWatch_xm : (s.updWatch f).xm = s.xm := rfl
@[simp] theorem State.updWatch_tickDue : (s.updWatch f).tickDue = s.tickDue := rfl
@[simp] theorem State.updWatch_pending : (s.updWatch f).pending = s.pending := rfl
end

section
variable (f : Capture → Capture)
@[simp] theorem State.updCapture_now : (s.updCapture f).now = s.now := rfl
@[simp] theorem State.updCapture_resetHeld : (s.updCapture f).resetHeld = s.resetHeld := rfl
@[simp] theorem State.updCapture_line : (s.updCapture f).line = s.line := rfl
@[simp] theorem State.updCapture_meter : (s.updCapture f).meter = s.meter := rfl
@[simp] theorem State.updCapture_records : (s.updCapture f).records = s.records := rfl
@[simp] theorem State.updCapture_relay : (s.updCapture f).relay = s.relay := rfl
@[simp] theorem State.updCapture_sched : (s.updCapture f).sched = s.sched := rfl
@[simp] theorem State.updCapture_plans : (s.updCapture f).plans = s.plans := rfl
@[simp] theorem State.updCapture_guard : (s.updCapture f).guard = s.guard := rfl
@[simp] theorem State.updCapture_watch : (s.updCapture f).watch = s.watch := rfl
@[simp] theorem State.updCapture_capture : (s.updCapture f).capture = f s.capture := rfl
@[simp] theorem State.updCapture_notices : (s.updCapture f).notices = s.notices := rfl
@[simp] theorem State.updCapture_port : (s.updCapture f).port = s.port := rfl
@[simp] theorem State.updCapture_settings : (s.updCapture f).settings = s.settings := rfl
@[simp] theorem State.updCapture_xm : (s.updCapture f).xm = s.xm := rfl
@[simp] theorem State.updCapture_tickDue : (s.updCapture f).tickDue = s.tickDue := rfl
@[simp] theorem State.updCapture_pending : (s.updCapture f).pending = s.pending := rfl
end

section
variable (f : Notices → Notices)
@[simp] theorem State.updNotices_now : (s.updNotices f).now = s.now := rfl
@[simp] theorem State.updNotices_resetHeld : (s.updNotices f).resetHeld = s.resetHeld := rfl
@[simp] theorem State.updNotices_line : (s.updNotices f).line = s.line := rfl
@[simp] theorem State.updNotices_meter : (s.updNotices f).meter = s.meter := rfl
@[simp] theorem State.updNotices_records : (s.updNotices f).records = s.records := rfl
@[simp] theorem State.updNotices_relay : (s.updNotices f).relay = s.relay := rfl
@[simp] theorem State.updNotices_sched : (s.updNotices f).sched = s.sched := rfl
@[simp] theorem State.updNotices_plans : (s.updNotices f).plans = s.plans := rfl
@[simp] theorem State.updNotices_guard : (s.updNotices f).guard = s.guard := rfl
@[simp] theorem State.updNotices_watch : (s.updNotices f).watch = s.watch := rfl
@[simp] theorem State.updNotices_capture : (s.updNotices f).capture = s.capture := rfl
@[simp] theorem State.updNotices_notices : (s.updNotices f).notices = f s.notices := rfl
@[simp] theorem State.updNotices_port : (s.updNotices f).port = s.port := rfl
@[simp] theorem State.updNotices_settings : (s.updNotices f).settings = s.settings := rfl
@[simp] theorem State.updNotices_xm : (s.updNotices f).xm = s.xm := rfl
@[simp] theorem State.updNotices_tickDue : (s.updNotices f).tickDue = s.tickDue := rfl
@[simp] theorem State.updNotices_pending : (s.updNotices f).pending = s.pending := rfl
end

section
variable (f : Port → Port)
@[simp] theorem State.updPort_now : (s.updPort f).now = s.now := rfl
@[simp] theorem State.updPort_resetHeld : (s.updPort f).resetHeld = s.resetHeld := rfl
@[simp] theorem State.updPort_line : (s.updPort f).line = s.line := rfl
@[simp] theorem State.updPort_meter : (s.updPort f).meter = s.meter := rfl
@[simp] theorem State.updPort_records : (s.updPort f).records = s.records := rfl
@[simp] theorem State.updPort_relay : (s.updPort f).relay = s.relay := rfl
@[simp] theorem State.updPort_sched : (s.updPort f).sched = s.sched := rfl
@[simp] theorem State.updPort_plans : (s.updPort f).plans = s.plans := rfl
@[simp] theorem State.updPort_guard : (s.updPort f).guard = s.guard := rfl
@[simp] theorem State.updPort_watch : (s.updPort f).watch = s.watch := rfl
@[simp] theorem State.updPort_capture : (s.updPort f).capture = s.capture := rfl
@[simp] theorem State.updPort_notices : (s.updPort f).notices = s.notices := rfl
@[simp] theorem State.updPort_port : (s.updPort f).port = f s.port := rfl
@[simp] theorem State.updPort_settings : (s.updPort f).settings = s.settings := rfl
@[simp] theorem State.updPort_xm : (s.updPort f).xm = s.xm := rfl
@[simp] theorem State.updPort_tickDue : (s.updPort f).tickDue = s.tickDue := rfl
@[simp] theorem State.updPort_pending : (s.updPort f).pending = s.pending := rfl
end

section
variable (f : Settings → Settings)
@[simp] theorem State.updSettings_now : (s.updSettings f).now = s.now := rfl
@[simp] theorem State.updSettings_resetHeld : (s.updSettings f).resetHeld = s.resetHeld := rfl
@[simp] theorem State.updSettings_line : (s.updSettings f).line = s.line := rfl
@[simp] theorem State.updSettings_meter : (s.updSettings f).meter = s.meter := rfl
@[simp] theorem State.updSettings_records : (s.updSettings f).records = s.records := rfl
@[simp] theorem State.updSettings_relay : (s.updSettings f).relay = s.relay := rfl
@[simp] theorem State.updSettings_sched : (s.updSettings f).sched = s.sched := rfl
@[simp] theorem State.updSettings_plans : (s.updSettings f).plans = s.plans := rfl
@[simp] theorem State.updSettings_guard : (s.updSettings f).guard = s.guard := rfl
@[simp] theorem State.updSettings_watch : (s.updSettings f).watch = s.watch := rfl
@[simp] theorem State.updSettings_capture : (s.updSettings f).capture = s.capture := rfl
@[simp] theorem State.updSettings_notices : (s.updSettings f).notices = s.notices := rfl
@[simp] theorem State.updSettings_port : (s.updSettings f).port = s.port := rfl
@[simp] theorem State.updSettings_settings : (s.updSettings f).settings = f s.settings := rfl
@[simp] theorem State.updSettings_xm : (s.updSettings f).xm = s.xm := rfl
@[simp] theorem State.updSettings_tickDue : (s.updSettings f).tickDue = s.tickDue := rfl
@[simp] theorem State.updSettings_pending : (s.updSettings f).pending = s.pending := rfl
end

section
variable (o : OutletIx) (f : RelayOutlet → RelayOutlet)
@[simp] theorem State.updRelay_now : (s.updRelay o f).now = s.now := rfl
@[simp] theorem State.updRelay_resetHeld : (s.updRelay o f).resetHeld = s.resetHeld := rfl
@[simp] theorem State.updRelay_line : (s.updRelay o f).line = s.line := rfl
@[simp] theorem State.updRelay_meter : (s.updRelay o f).meter = s.meter := rfl
@[simp] theorem State.updRelay_records : (s.updRelay o f).records = s.records := rfl
@[simp] theorem State.updRelay_relay : (s.updRelay o f).relay = upd s.relay o f := rfl
@[simp] theorem State.updRelay_sched : (s.updRelay o f).sched = s.sched := rfl
@[simp] theorem State.updRelay_plans : (s.updRelay o f).plans = s.plans := rfl
@[simp] theorem State.updRelay_guard : (s.updRelay o f).guard = s.guard := rfl
@[simp] theorem State.updRelay_watch : (s.updRelay o f).watch = s.watch := rfl
@[simp] theorem State.updRelay_capture : (s.updRelay o f).capture = s.capture := rfl
@[simp] theorem State.updRelay_notices : (s.updRelay o f).notices = s.notices := rfl
@[simp] theorem State.updRelay_port : (s.updRelay o f).port = s.port := rfl
@[simp] theorem State.updRelay_settings : (s.updRelay o f).settings = s.settings := rfl
@[simp] theorem State.updRelay_xm : (s.updRelay o f).xm = s.xm := rfl
@[simp] theorem State.updRelay_tickDue : (s.updRelay o f).tickDue = s.tickDue := rfl
@[simp] theorem State.updRelay_pending : (s.updRelay o f).pending = s.pending := rfl
end

/-! ### Tables -/

@[simp] theorem upd_getElem {α : Type} {n : Nat} (v : Vector α n) (i : Fin n) (f : α → α) (k : Nat) (h : k < n) :
    (upd v i f)[k] = if i.val = k then f v[i] else v[k] := by simp [upd, Vector.getElem_set]

theorem upd_get {α : Type} {n : Nat} (v : Vector α n) (i j : Fin n) (f : α → α) :
    (upd v i f)[j] = if i = j then f v[i] else v[j] := by simp [Fin.ext_iff]

theorem upd_get_self {α : Type} {n : Nat} (v : Vector α n) (i : Fin n) (f : α → α) :
    (upd v i f)[i] = f v[i] := by simp

theorem upd_get_ne {α : Type} {n : Nat} (v : Vector α n) {i j : Fin n} (h : i ≠ j) (f : α → α) :
    (upd v i f)[j] = v[j] := by rw [upd_get, if_neg h]

@[simp] theorem mapAll_getElem {α β : Type} {n : Nat} (f : α → β) (v : Vector α n) (k : Nat) (h : k < n) :
    (mapAll f v)[k] = f v[k] := by simp [mapAll]

end Sys2Proof.Machine
end

