-- ==== Sys2Proof/Laws/Frame.lean ====
section
/-! SUPPORT. Frames: for every shared operation of the Notice Unit, the schedule, the watch and the Plan Unit,
one lemma that says which fields of the state it leaves unchanged. -/

namespace Sys2Proof.Machine

/-- A fold of steps that each keep a quantity keeps it. -/
theorem forAll_keeps {α β : Type} (g : State → β) {f : α → State → State} (h : ∀ a s, g (f a s) = g s) (xs : List α) :
    ∀ s : State, g (forAll xs f s) = g s := by
  induction xs with
  | nil => exact fun _ => rfl
  | cons a xs ih => exact fun s => (ih (f a s)).trans (h a s)

/-! ### Updates of one entry -/

@[simp] theorem State.setEntry_frame (s : State) (o : OutletIx) (e : Option Entry) :
    (State.setEntry s o e).now = s.now ∧ (State.setEntry s o e).resetHeld = s.resetHeld
      ∧ (State.setEntry s o e).line = s.line ∧ (State.setEntry s o e).meter = s.meter
      ∧ (State.setEntry s o e).records = s.records ∧ (State.setEntry s o e).relay = s.relay
      ∧ (State.setEntry s o e).plans = s.plans ∧ (State.setEntry s o e).guard = s.guard
      ∧ (State.setEntry s o e).watch = s.watch ∧ (State.setEntry s o e).capture = s.capture
      ∧ (State.setEntry s o e).notices = s.notices ∧ (State.setEntry s o e).port = s.port
      ∧ (State.setEntry s o e).settings = s.settings ∧ (State.setEntry s o e).xm = s.xm
      ∧ (State.setEntry s o e).tickDue = s.tickDue ∧ (State.setEntry s o e).pending = s.pending := by
  simp [State.setEntry]

@[simp] theorem State.updSchedBranch_frame (s : State) (b : BranchIx) (f : SchedBranch → SchedBranch) :
    (State.updSchedBranch s b f).now = s.now ∧ (State.updSchedBranch s b f).resetHeld = s.resetHeld
      ∧ (State.updSchedBranch s b f).line = s.line ∧ (State.updSchedBranch s b f).meter = s.meter
      ∧ (State.updSchedBranch s b f).records = s.records ∧ (State.updSchedBranch s b f).relay = s.relay
      ∧ (State.updSchedBranch s b f).plans = s.plans ∧ (State.updSchedBranch s b f).guard = s.guard
      ∧ (State.updSchedBranch s b f).watch = s.watch ∧ (State.updSchedBranch s b f).capture = s.capture
      ∧ (State.updSchedBranch s b f).notices = s.notices ∧ (State.updSchedBranch s b f).port = s.port
      ∧ (State.updSchedBranch s b f).settings = s.settings ∧ (State.updSchedBranch s b f).xm = s.xm
      ∧ (State.updSchedBranch s b f).tickDue = s.tickDue ∧ (State.updSchedBranch s b f).pending = s.pending := by
  simp [State.updSchedBranch]

@[simp] theorem State.setPlan_frame (s : State) (o : OutletIx) (p : Option Plan) :
    (State.setPlan s o p).now = s.now ∧ (State.setPlan s o p).resetHeld = s.resetHeld
      ∧ (State.setPlan s o p).line = s.line ∧ (State.setPlan s o p).meter = s.meter
      ∧ (State.setPlan s o p).records = s.records ∧ (State.setPlan s o p).relay = s.relay
      ∧ (State.setPlan s o p).sched = s.sched ∧ (State.setPlan s o p).guard = s.guard
      ∧ (State.setPlan s o p).watch = s.watch ∧ (State.setPlan s o p).capture = s.capture
      ∧ (State.setPlan s o p).notices = s.notices ∧ (State.setPlan s o p).port = s.port
      ∧ (State.setPlan s o p).settings = s.settings ∧ (State.setPlan s o p).xm = s.xm
      ∧ (State.setPlan s o p).tickDue = s.tickDue ∧ (State.setPlan s o p).pending = s.pending := by
  simp [State.setPlan]

@[simp] theorem State.updSlot_frame (s : State) (o : OutletIx) (f : ActionSlot → ActionSlot) :
    (State.updSlot s o f).now = s.now ∧ (State.updSlot s o f).resetHeld = s.resetHeld
      ∧ (State.updSlot s o f).line = s.line ∧ (State.updSlot s o f).meter = s.meter
      ∧ (State.updSlot s o f).records = s.records ∧ (State.updSlot s o f).relay = s.relay
      ∧ (State.updSlot s o f).sched = s.sched ∧ (State.updSlot s o f).guard = s.guard
      ∧ (State.updSlot s o f).watch = s.watch ∧ (State.updSlot s o f).capture = s.capture
      ∧ (State.updSlot s o f).notices = s.notices ∧ (State.updSlot s o f).port = s.port
      ∧ (State.updSlot s o f).settings = s.settings ∧ (State.updSlot s o f).xm = s.xm
      ∧ (State.updSlot s o f).tickDue = s.tickDue ∧ (State.updSlot s o f).pending = s.pending := by
  simp [State.updSlot]

@[simp] theorem State.updGroup_frame (s : State) (f : Group → Group) :
    (State.updGroup s f).now = s.now ∧ (State.updGroup s f).resetHeld = s.resetHeld
      ∧ (State.updGroup s f).line = s.line ∧ (State.updGroup s f).meter = s.meter
      ∧ (State.updGroup s f).records = s.records ∧ (State.updGroup s f).relay = s.relay
      ∧ (State.updGroup s f).sched = s.sched ∧ (State.updGroup s f).guard = s.guard
      ∧ (State.updGroup s f).watch = s.watch ∧ (State.updGroup s f).capture = s.capture
      ∧ (State.updGroup s f).notices = s.notices ∧ (State.updGroup s f).port = s.port
      ∧ (State.updGroup s f).settings = s.settings ∧ (State.updGroup s f).xm = s.xm
      ∧ (State.updGroup s f).tickDue = s.tickDue ∧ (State.updGroup s f).pending = s.pending := by
  simp [State.updGroup]

@[simp] theorem State.updBranch_frame (s : State) (b : BranchIx) (f : GuardBranch → GuardBranch) :
    (State.updBranch s b f).now = s.now ∧ (State.updBranch s b f).resetHeld = s.resetHeld
      ∧ (State.updBranch s b f).line = s.line ∧ (State.updBranch s b f).meter = s.meter
      ∧ (State.updBranch s b f).records = s.records ∧ (State.updBranch s b f).relay = s.relay
      ∧ (State.updBranch s b f).sched = s.sched ∧ (State.updBranch s b f).plans = s.plans
      ∧ (State.updBranch s b f).watch = s.watch ∧ (State.updBranch s b f).capture = s.capture
      ∧ (State.updBranch s b f).notices = s.notices ∧ (State.updBranch s b f).port = s.port
      ∧ (State.updBranch s b f).settings = s.settings ∧ (State.updBranch s b f).xm = s.xm
      ∧ (State.updBranch s b f).tickDue = s.tickDue ∧ (State.updBranch s b f).pending = s.pending := by
  simp [State.updBranch]

@[simp] theorem State.updMarks_frame (s : State) (o : OutletIx) (f : Marks → Marks) :
    (State.updMarks s o f).now = s.now ∧ (State.updMarks s o f).resetHeld = s.resetHeld
      ∧ (State.updMarks s o f).line = s.line ∧ (State.updMarks s o f).meter = s.meter
      ∧ (State.updMarks s o f).records = s.records ∧ (State.updMarks s o f).relay = s.relay
      ∧ (State.updMarks s o f).sched = s.sched ∧ (State.updMarks s o f).plans = s.plans
      ∧ (State.updMarks s o f).watch = s.watch ∧ (State.updMarks s o f).capture = s.capture
      ∧ (State.updMarks s o f).notices = s.notices ∧ (State.updMarks s o f).port = s.port
      ∧ (State.updMarks s o f).settings = s.settings ∧ (State.updMarks s o f).xm = s.xm
      ∧ (State.updMarks s o f).tickDue = s.tickDue ∧ (State.updMarks s o f).pending = s.pending := by
  simp [State.updMarks]

@[simp] theorem State.updOutletWatch_frame (s : State) (o : OutletIx) (f : OutletWatch → OutletWatch) :
    (State.updOutletWatch s o f).now = s.now ∧ (State.updOutletWatch s o f).resetHeld = s.resetHeld
      ∧ (State.updOutletWatch s o f).line = s.line ∧ (State.updOutletWatch s o f).meter = s.meter
      ∧ (State.updOutletWatch s o f).records = s.records ∧ (State.updOutletWatch s o f).relay = s.relay
      ∧ (State.updOutletWatch s o f).sched = s.sched ∧ (State.updOutletWatch s o f).plans = s.plans
      ∧ (State.updOutletWatch s o f).guard = s.guard ∧ (State.updOutletWatch s o f).capture = s.capture
      ∧ (State.updOutletWatch s o f).notices = s.notices ∧ (State.updOutletWatch s o f).port = s.port
      ∧ (State.updOutletWatch s o f).settings = s.settings ∧ (State.updOutletWatch s o f).xm = s.xm
      ∧ (State.updOutletWatch s o f).tickDue = s.tickDue ∧ (State.updOutletWatch s o f).pending = s.pending := by
  simp [State.updOutletWatch]

@[simp] theorem State.updNotice_frame (s : State) (src : SourceIx) (f : Notice → Notice) :
    (State.updNotice s src f).now = s.now ∧ (State.updNotice s src f).resetHeld = s.resetHeld
      ∧ (State.updNotice s src f).line = s.line ∧ (State.updNotice s src f).meter = s.meter
      ∧ (State.updNotice s src f).records = s.records ∧ (State.updNotice s src f).relay = s.relay
      ∧ (State.updNotice s src f).sched = s.sched ∧ (State.updNotice s src f).plans = s.plans
      ∧ (State.updNotice s src f).guard = s.guard ∧ (State.updNotice s src f).watch = s.watch
      ∧ (State.updNotice s src f).capture = s.capture ∧ (State.updNotice s src f).port = s.port
      ∧ (State.updNotice s src f).settings = s.settings ∧ (State.updNotice s src f).xm = s.xm
      ∧ (State.updNotice s src f).tickDue = s.tickDue ∧ (State.updNotice s src f).pending = s.pending := by
  simp [State.updNotice]

@[simp] theorem State.updOutletMeter_frame (s : State) (o : OutletIx) (f : OutletMeter → OutletMeter) :
    (State.updOutletMeter s o f).now = s.now ∧ (State.updOutletMeter s o f).resetHeld = s.resetHeld
      ∧ (State.updOutletMeter s o f).line = s.line ∧ (State.updOutletMeter s o f).records = s.records
      ∧ (State.updOutletMeter s o f).relay = s.relay ∧ (State.updOutletMeter s o f).sched = s.sched
      ∧ (State.updOutletMeter s o f).plans = s.plans ∧ (State.updOutletMeter s o f).guard = s.guard
      ∧ (State.updOutletMeter s o f).watch = s.watch ∧ (State.updOutletMeter s o f).capture = s.capture
      ∧ (State.updOutletMeter s o f).notices = s.notices ∧ (State.updOutletMeter s o f).port = s.port
      ∧ (State.updOutletMeter s o f).settings = s.settings ∧ (State.updOutletMeter s o f).xm = s.xm
      ∧ (State.updOutletMeter s o f).tickDue = s.tickDue ∧ (State.updOutletMeter s o f).pending = s.pending := by
  simp [State.updOutletMeter]

@[simp] theorem State.updOutletRecord_frame (s : State) (o : OutletIx) (f : OutletRecord → OutletRecord) :
    (State.updOutletRecord s o f).now = s.now ∧ (State.updOutletRecord s o f).resetHeld = s.resetHeld
      ∧ (State.updOutletRecord s o f).line = s.line ∧ (State.updOutletRecord s o f).meter = s.meter
      ∧ (State.updOutletRecord s o f).relay = s.relay ∧ (State.updOutletRecord s o f).sched = s.sched
      ∧ (State.updOutletRecord s o f).plans = s.plans ∧ (State.updOutletRecord s o f).guard = s.guard
      ∧ (State.updOutletRecord s o f).watch = s.watch ∧ (State.updOutletRecord s o f).capture = s.capture
      ∧ (State.updOutletRecord s o f).notices = s.notices ∧ (State.updOutletRecord s o f).port = s.port
      ∧ (State.updOutletRecord s o f).settings = s.settings ∧ (State.updOutletRecord s o f).xm = s.xm
      ∧ (State.updOutletRecord s o f).tickDue = s.tickDue ∧ (State.updOutletRecord s o f).pending = s.pending := by
  simp [State.updOutletRecord]

@[simp] theorem State.setOp_frame (s : State) (o : OutletIx) (op : Option Op) :
    (State.setOp s o op).now = s.now ∧ (State.setOp s o op).resetHeld = s.resetHeld
      ∧ (State.setOp s o op).line = s.line ∧ (State.setOp s o op).meter = s.meter
      ∧ (State.setOp s o op).records = s.records ∧ (State.setOp s o op).sched = s.sched
      ∧ (State.setOp s o op).plans = s.plans ∧ (State.setOp s o op).guard = s.guard
      ∧ (State.setOp s o op).watch = s.watch ∧ (State.setOp s o op).capture = s.capture
      ∧ (State.setOp s o op).notices = s.notices ∧ (State.setOp s o op).port = s.port
      ∧ (State.setOp s o op).settings = s.settings ∧ (State.setOp s o op).xm = s.xm
      ∧ (State.setOp s o op).tickDue = s.tickDue ∧ (State.setOp s o op).pending = s.pending := by
  simp [State.setOp]

@[simp] theorem State.setPosition_frame (s : State) (o : OutletIx) (p : Position) :
    (State.setPosition s o p).now = s.now ∧ (State.setPosition s o p).resetHeld = s.resetHeld
      ∧ (State.setPosition s o p).line = s.line ∧ (State.setPosition s o p).meter = s.meter
      ∧ (State.setPosition s o p).records = s.records ∧ (State.setPosition s o p).sched = s.sched
      ∧ (State.setPosition s o p).plans = s.plans ∧ (State.setPosition s o p).guard = s.guard
      ∧ (State.setPosition s o p).watch = s.watch ∧ (State.setPosition s o p).capture = s.capture
      ∧ (State.setPosition s o p).notices = s.notices ∧ (State.setPosition s o p).port = s.port
      ∧ (State.setPosition s o p).settings = s.settings ∧ (State.setPosition s o p).xm = s.xm
      ∧ (State.setPosition s o p).tickDue = s.tickDue ∧ (State.setPosition s o p).pending = s.pending := by
  simp [State.setPosition]


/-! ### Notices -/

@[simp] theorem startPulse_frame (s : State) :
    (startPulse s).now = s.now ∧ (startPulse s).resetHeld = s.resetHeld ∧ (startPulse s).line = s.line
      ∧ (startPulse s).meter = s.meter ∧ (startPulse s).records = s.records ∧ (startPulse s).relay = s.relay
      ∧ (startPulse s).sched = s.sched ∧ (startPulse s).plans = s.plans ∧ (startPulse s).guard = s.guard
      ∧ (startPulse s).watch = s.watch ∧ (startPulse s).capture = s.capture ∧ (startPulse s).port = s.port
      ∧ (startPulse s).settings = s.settings ∧ (startPulse s).xm = s.xm ∧ (startPulse s).tickDue = s.tickDue
      ∧ (startPulse s).pending = s.pending := by
  simp [startPulse]

@[simp] theorem notifyPending_frame (src : SourceIx) (c : CauseBit) (s : State) :
    (notifyPending src c s).now = s.now ∧ (notifyPending src c s).resetHeld = s.resetHeld
      ∧ (notifyPending src c s).line = s.line ∧ (notifyPending src c s).meter = s.meter
      ∧ (notifyPending src c s).records = s.records ∧ (notifyPending src c s).relay = s.relay
      ∧ (notifyPending src c s).sched = s.sched ∧ (notifyPending src c s).plans = s.plans
      ∧ (notifyPending src c s).guard = s.guard ∧ (notifyPending src c s).watch = s.watch
      ∧ (notifyPending src c s).capture = s.capture ∧ (notifyPending src c s).port = s.port
      ∧ (notifyPending src c s).settings = s.settings ∧ (notifyPending src c s).xm = s.xm
      ∧ (notifyPending src c s).tickDue = s.tickDue ∧ (notifyPending src c s).pending = s.pending := by
  unfold notifyPending
  repeat' split
  all_goals simp

@[simp] theorem becomePending_frame (src : SourceIx) (c : CauseBit) (s : State) :
    (becomePending src c s).now = s.now ∧ (becomePending src c s).resetHeld = s.resetHeld
      ∧ (becomePending src c s).line = s.line ∧ (becomePending src c s).meter = s.meter
      ∧ (becomePending src c s).records = s.records ∧ (becomePending src c s).relay = s.relay
      ∧ (becomePending src c s).sched = s.sched ∧ (becomePending src c s).plans = s.plans
      ∧ (becomePending src c s).guard = s.guard ∧ (becomePending src c s).watch = s.watch
      ∧ (becomePending src c s).capture = s.capture ∧ (becomePending src c s).port = s.port
      ∧ (becomePending src c s).settings = s.settings ∧ (becomePending src c s).xm = s.xm
      ∧ (becomePending src c s).tickDue = s.tickDue ∧ (becomePending src c s).pending = s.pending := by
  unfold becomePending
  repeat' split
  all_goals simp

@[simp] theorem raiseEdge_frame (src : SourceIx) (c : CauseBit) (s : State) :
    (raiseEdge src c s).now = s.now ∧ (raiseEdge src c s).resetHeld = s.resetHeld
      ∧ (raiseEdge src c s).line = s.line ∧ (raiseEdge src c s).meter = s.meter
      ∧ (raiseEdge src c s).records = s.records ∧ (raiseEdge src c s).relay = s.relay
      ∧ (raiseEdge src c s).sched = s.sched ∧ (raiseEdge src c s).plans = s.plans
      ∧ (raiseEdge src c s).guard = s.guard ∧ (raiseEdge src c s).watch = s.watch
      ∧ (raiseEdge src c s).capture = s.capture ∧ (raiseEdge src c s).port = s.port
      ∧ (raiseEdge src c s).settings = s.settings ∧ (raiseEdge src c s).xm = s.xm
      ∧ (raiseEdge src c s).tickDue = s.tickDue ∧ (raiseEdge src c s).pending = s.pending := by
  simp [raiseEdge]

@[simp] theorem conditionBegins_frame (src : SourceIx) (c : CauseBit) (s : State) :
    (conditionBegins src c s).now = s.now ∧ (conditionBegins src c s).resetHeld = s.resetHeld
      ∧ (conditionBegins src c s).line = s.line ∧ (conditionBegins src c s).meter = s.meter
      ∧ (conditionBegins src c s).records = s.records ∧ (conditionBegins src c s).relay = s.relay
      ∧ (conditionBegins src c s).sched = s.sched ∧ (conditionBegins src c s).plans = s.plans
      ∧ (conditionBegins src c s).guard = s.guard ∧ (conditionBegins src c s).watch = s.watch
      ∧ (conditionBegins src c s).capture = s.capture ∧ (conditionBegins src c s).port = s.port
      ∧ (conditionBegins src c s).settings = s.settings ∧ (conditionBegins src c s).xm = s.xm
      ∧ (conditionBegins src c s).tickDue = s.tickDue ∧ (conditionBegins src c s).pending = s.pending := by
  simp [conditionBegins]

@[simp] theorem conditionEnds_frame (src : SourceIx) (c : CauseBit) (s : State) :
    (conditionEnds src c s).now = s.now ∧ (conditionEnds src c s).resetHeld = s.resetHeld
      ∧ (conditionEnds src c s).line = s.line ∧ (conditionEnds src c s).meter = s.meter
      ∧ (conditionEnds src c s).records = s.records ∧ (conditionEnds src c s).relay = s.relay
      ∧ (conditionEnds src c s).sched = s.sched ∧ (conditionEnds src c s).plans = s.plans
      ∧ (conditionEnds src c s).guard = s.guard ∧ (conditionEnds src c s).watch = s.watch
      ∧ (conditionEnds src c s).capture = s.capture ∧ (conditionEnds src c s).port = s.port
      ∧ (conditionEnds src c s).settings = s.settings ∧ (conditionEnds src c s).xm = s.xm
      ∧ (conditionEnds src c s).tickDue = s.tickDue ∧ (conditionEnds src c s).pending = s.pending := by
  simp [conditionEnds]

@[simp] theorem setCondition_frame (src : SourceIx) (c : CauseBit) (holds : Bool) (s : State) :
    (setCondition src c holds s).now = s.now ∧ (setCondition src c holds s).resetHeld = s.resetHeld
      ∧ (setCondition src c holds s).line = s.line ∧ (setCondition src c holds s).meter = s.meter
      ∧ (setCondition src c holds s).records = s.records ∧ (setCondition src c holds s).relay = s.relay
      ∧ (setCondition src c holds s).sched = s.sched ∧ (setCondition src c holds s).plans = s.plans
      ∧ (setCondition src c holds s).guard = s.guard ∧ (setCondition src c holds s).watch = s.watch
      ∧ (setCondition src c holds s).capture = s.capture ∧ (setCondition src c holds s).port = s.port
      ∧ (setCondition src c holds s).settings = s.settings ∧ (setCondition src c holds s).xm = s.xm
      ∧ (setCondition src c holds s).tickDue = s.tickDue ∧ (setCondition src c holds s).pending = s.pending := by
  unfold setCondition
  repeat' split
  all_goals simp

@[simp] theorem reRaiseCause_frame (src : SourceIx) (c : CauseBit) (s : State) :
    (reRaiseCause src c s).now = s.now ∧ (reRaiseCause src c s).resetHeld = s.resetHeld
      ∧ (reRaiseCause src c s).line = s.line ∧ (reRaiseCause src c s).meter = s.meter
      ∧ (reRaiseCause src c s).records = s.records ∧ (reRaiseCause src c s).relay = s.relay
      ∧ (reRaiseCause src c s).sched = s.sched ∧ (reRaiseCause src c s).plans = s.plans
      ∧ (reRaiseCause src c s).guard = s.guard ∧ (reRaiseCause src c s).watch = s.watch
      ∧ (reRaiseCause src c s).capture = s.capture ∧ (reRaiseCause src c s).port = s.port
      ∧ (reRaiseCause src c s).settings = s.settings ∧ (reRaiseCause src c s).xm = s.xm
      ∧ (reRaiseCause src c s).tickDue = s.tickDue ∧ (reRaiseCause src c s).pending = s.pending := by
  unfold reRaiseCause
  repeat' split
  all_goals simp

@[simp] theorem tickNotices_frame (s : State) :
    (tickNotices s).now = s.now ∧ (tickNotices s).resetHeld = s.resetHeld ∧ (tickNotices s).line = s.line
      ∧ (tickNotices s).meter = s.meter ∧ (tickNotices s).records = s.records ∧ (tickNotices s).relay = s.relay
      ∧ (tickNotices s).sched = s.sched ∧ (tickNotices s).plans = s.plans ∧ (tickNotices s).guard = s.guard
      ∧ (tickNotices s).watch = s.watch ∧ (tickNotices s).capture = s.capture ∧ (tickNotices s).port = s.port
      ∧ (tickNotices s).settings = s.settings ∧ (tickNotices s).xm = s.xm ∧ (tickNotices s).pending = s.pending := by
  simp [tickNotices]

@[simp] theorem pollTake_frame (s : State) :
    (pollTake s).now = s.now ∧ (pollTake s).resetHeld = s.resetHeld ∧ (pollTake s).line = s.line
      ∧ (pollTake s).meter = s.meter ∧ (pollTake s).records = s.records ∧ (pollTake s).relay = s.relay
      ∧ (pollTake s).sched = s.sched ∧ (pollTake s).plans = s.plans ∧ (pollTake s).guard = s.guard
      ∧ (pollTake s).watch = s.watch ∧ (pollTake s).capture = s.capture ∧ (pollTake s).settings = s.settings
      ∧ (pollTake s).xm = s.xm ∧ (pollTake s).tickDue = s.tickDue ∧ (pollTake s).pending = s.pending := by
  unfold pollTake
  dsimp only
  repeat' split
  all_goals simp

@[simp] theorem enableChanged_frame (src : SourceIx) (old : BitVec 8) (s : State) :
    (enableChanged src old s).now = s.now ∧ (enableChanged src old s).resetHeld = s.resetHeld
      ∧ (enableChanged src old s).line = s.line ∧ (enableChanged src old s).meter = s.meter
      ∧ (enableChanged src old s).records = s.records ∧ (enableChanged src old s).relay = s.relay
      ∧ (enableChanged src old s).sched = s.sched ∧ (enableChanged src old s).plans = s.plans
      ∧ (enableChanged src old s).guard = s.guard ∧ (enableChanged src old s).watch = s.watch
      ∧ (enableChanged src old s).capture = s.capture ∧ (enableChanged src old s).port = s.port
      ∧ (enableChanged src old s).settings = s.settings ∧ (enableChanged src old s).xm = s.xm
      ∧ (enableChanged src old s).tickDue = s.tickDue ∧ (enableChanged src old s).pending = s.pending := by
  unfold enableChanged
  repeat' split
  all_goals simp

@[simp] theorem setMode_frame (m : AttentionMode) (s : State) :
    (setMode m s).now = s.now ∧ (setMode m s).resetHeld = s.resetHeld ∧ (setMode m s).line = s.line
      ∧ (setMode m s).meter = s.meter ∧ (setMode m s).records = s.records ∧ (setMode m s).relay = s.relay
      ∧ (setMode m s).sched = s.sched ∧ (setMode m s).plans = s.plans ∧ (setMode m s).guard = s.guard
      ∧ (setMode m s).watch = s.watch ∧ (setMode m s).capture = s.capture ∧ (setMode m s).settings = s.settings
      ∧ (setMode m s).xm = s.xm ∧ (setMode m s).tickDue = s.tickDue ∧ (setMode m s).pending = s.pending := by
  unfold setMode
  repeat' split
  all_goals simp

@[simp] theorem emptyNotices_frame (s : State) :
    (emptyNotices s).now = s.now ∧ (emptyNotices s).resetHeld = s.resetHeld ∧ (emptyNotices s).line = s.line
      ∧ (emptyNotices s).meter = s.meter ∧ (emptyNotices s).records = s.records ∧ (emptyNotices s).relay = s.relay
      ∧ (emptyNotices s).sched = s.sched ∧ (emptyNotices s).plans = s.plans ∧ (emptyNotices s).guard = s.guard
      ∧ (emptyNotices s).watch = s.watch ∧ (emptyNotices s).capture = s.capture ∧ (emptyNotices s).port = s.port
      ∧ (emptyNotices s).settings = s.settings ∧ (emptyNotices s).xm = s.xm ∧ (emptyNotices s).tickDue = s.tickDue
      ∧ (emptyNotices s).pending = s.pending := by
  simp [emptyNotices]


/-! ### Schedule -/

@[simp] theorem installOp_frame (o : OutletIx) (p : Op) (s : State) :
    (installOp o p s).now = s.now ∧ (installOp o p s).resetHeld = s.resetHeld ∧ (installOp o p s).line = s.line
      ∧ (installOp o p s).meter = s.meter ∧ (installOp o p s).records = s.records
      ∧ (installOp o p s).sched = s.sched ∧ (installOp o p s).plans = s.plans ∧ (installOp o p s).guard = s.guard
      ∧ (installOp o p s).watch = s.watch ∧ (installOp o p s).capture = s.capture
      ∧ (installOp o p s).notices = s.notices ∧ (installOp o p s).port = s.port
      ∧ (installOp o p s).settings = s.settings ∧ (installOp o p s).xm = s.xm
      ∧ (installOp o p s).tickDue = s.tickDue ∧ (installOp o p s).pending = s.pending := by
  simp [installOp]

@[simp] theorem writeLearned_frame (o : OutletIx) (s : State) :
    (writeLearned o s).now = s.now ∧ (writeLearned o s).resetHeld = s.resetHeld ∧ (writeLearned o s).line = s.line
      ∧ (writeLearned o s).meter = s.meter ∧ (writeLearned o s).relay = s.relay
      ∧ (writeLearned o s).sched = s.sched ∧ (writeLearned o s).plans = s.plans
      ∧ (writeLearned o s).guard = s.guard ∧ (writeLearned o s).watch = s.watch
      ∧ (writeLearned o s).capture = s.capture ∧ (writeLearned o s).notices = s.notices
      ∧ (writeLearned o s).port = s.port ∧ (writeLearned o s).settings = s.settings ∧ (writeLearned o s).xm = s.xm
      ∧ (writeLearned o s).tickDue = s.tickDue ∧ (writeLearned o s).pending = s.pending := by
  simp [writeLearned]

@[simp] theorem publishLearned_frame (o : OutletIx) (s : State) :
    (publishLearned o s).now = s.now ∧ (publishLearned o s).resetHeld = s.resetHeld
      ∧ (publishLearned o s).line = s.line ∧ (publishLearned o s).meter = s.meter
      ∧ (publishLearned o s).relay = s.relay ∧ (publishLearned o s).sched = s.sched
      ∧ (publishLearned o s).plans = s.plans ∧ (publishLearned o s).guard = s.guard
      ∧ (publishLearned o s).watch = s.watch ∧ (publishLearned o s).capture = s.capture
      ∧ (publishLearned o s).notices = s.notices ∧ (publishLearned o s).port = s.port
      ∧ (publishLearned o s).settings = s.settings ∧ (publishLearned o s).xm = s.xm
      ∧ (publishLearned o s).tickDue = s.tickDue ∧ (publishLearned o s).pending = s.pending := by
  unfold publishLearned
  repeat' split
  all_goals simp

@[simp] theorem setLearned_frame (o : OutletIx) (s : State) :
    (setLearned o s).now = s.now ∧ (setLearned o s).resetHeld = s.resetHeld ∧ (setLearned o s).line = s.line
      ∧ (setLearned o s).relay = s.relay ∧ (setLearned o s).sched = s.sched ∧ (setLearned o s).plans = s.plans
      ∧ (setLearned o s).guard = s.guard ∧ (setLearned o s).watch = s.watch ∧ (setLearned o s).capture = s.capture
      ∧ (setLearned o s).notices = s.notices ∧ (setLearned o s).port = s.port
      ∧ (setLearned o s).settings = s.settings ∧ (setLearned o s).xm = s.xm ∧ (setLearned o s).tickDue = s.tickDue
      ∧ (setLearned o s).pending = s.pending := by
  simp [setLearned]

@[simp] theorem setStep_frame (o : OutletIx) (st : PlanStep) (s : State) :
    (setStep o st s).now = s.now ∧ (setStep o st s).resetHeld = s.resetHeld ∧ (setStep o st s).line = s.line
      ∧ (setStep o st s).meter = s.meter ∧ (setStep o st s).records = s.records ∧ (setStep o st s).relay = s.relay
      ∧ (setStep o st s).sched = s.sched ∧ (setStep o st s).guard = s.guard ∧ (setStep o st s).watch = s.watch
      ∧ (setStep o st s).capture = s.capture ∧ (setStep o st s).notices = s.notices
      ∧ (setStep o st s).port = s.port ∧ (setStep o st s).settings = s.settings ∧ (setStep o st s).xm = s.xm
      ∧ (setStep o st s).tickDue = s.tickDue ∧ (setStep o st s).pending = s.pending := by
  unfold setStep
  repeat' split
  all_goals simp

@[simp] theorem dispatchEntry_frame (o : OutletIx) (e : Entry) (s : State) :
    (dispatchEntry o e s).now = s.now ∧ (dispatchEntry o e s).resetHeld = s.resetHeld
      ∧ (dispatchEntry o e s).line = s.line ∧ (dispatchEntry o e s).meter = s.meter
      ∧ (dispatchEntry o e s).records = s.records ∧ (dispatchEntry o e s).guard = s.guard
      ∧ (dispatchEntry o e s).watch = s.watch ∧ (dispatchEntry o e s).capture = s.capture
      ∧ (dispatchEntry o e s).notices = s.notices ∧ (dispatchEntry o e s).port = s.port
      ∧ (dispatchEntry o e s).settings = s.settings ∧ (dispatchEntry o e s).xm = s.xm
      ∧ (dispatchEntry o e s).tickDue = s.tickDue ∧ (dispatchEntry o e s).pending = s.pending := by
  simp [dispatchEntry]

@[simp] theorem grantRetry_frame (o : OutletIx) (s : State) :
    (grantRetry o s).now = s.now ∧ (grantRetry o s).resetHeld = s.resetHeld ∧ (grantRetry o s).line = s.line
      ∧ (grantRetry o s).meter = s.meter ∧ (grantRetry o s).records = s.records ∧ (grantRetry o s).plans = s.plans
      ∧ (grantRetry o s).guard = s.guard ∧ (grantRetry o s).watch = s.watch ∧ (grantRetry o s).capture = s.capture
      ∧ (grantRetry o s).notices = s.notices ∧ (grantRetry o s).port = s.port
      ∧ (grantRetry o s).settings = s.settings ∧ (grantRetry o s).xm = s.xm ∧ (grantRetry o s).tickDue = s.tickDue
      ∧ (grantRetry o s).pending = s.pending := by
  unfold grantRetry
  dsimp only
  repeat' split
  all_goals simp

@[simp] theorem grantOpening_frame (o : OutletIx) (s : State) :
    (grantOpening o s).now = s.now ∧ (grantOpening o s).resetHeld = s.resetHeld ∧ (grantOpening o s).line = s.line
      ∧ (grantOpening o s).guard = s.guard ∧ (grantOpening o s).watch = s.watch
      ∧ (grantOpening o s).capture = s.capture ∧ (grantOpening o s).notices = s.notices
      ∧ (grantOpening o s).port = s.port ∧ (grantOpening o s).settings = s.settings ∧ (grantOpening o s).xm = s.xm
      ∧ (grantOpening o s).tickDue = s.tickDue ∧ (grantOpening o s).pending = s.pending := by
  unfold grantOpening
  repeat' split
  all_goals simp

@[simp] theorem recordWin_frame (o : OutletIx) (s : State) :
    (recordWin o s).now = s.now ∧ (recordWin o s).resetHeld = s.resetHeld ∧ (recordWin o s).line = s.line
      ∧ (recordWin o s).meter = s.meter ∧ (recordWin o s).records = s.records ∧ (recordWin o s).relay = s.relay
      ∧ (recordWin o s).plans = s.plans ∧ (recordWin o s).guard = s.guard ∧ (recordWin o s).watch = s.watch
      ∧ (recordWin o s).capture = s.capture ∧ (recordWin o s).notices = s.notices ∧ (recordWin o s).port = s.port
      ∧ (recordWin o s).settings = s.settings ∧ (recordWin o s).xm = s.xm ∧ (recordWin o s).tickDue = s.tickDue
      ∧ (recordWin o s).pending = s.pending := by
  simp [recordWin]

@[simp] theorem grantClosing_frame (o : OutletIx) (s : State) :
    (grantClosing o s).now = s.now ∧ (grantClosing o s).resetHeld = s.resetHeld ∧ (grantClosing o s).line = s.line
      ∧ (grantClosing o s).meter = s.meter ∧ (grantClosing o s).records = s.records
      ∧ (grantClosing o s).guard = s.guard ∧ (grantClosing o s).watch = s.watch
      ∧ (grantClosing o s).capture = s.capture ∧ (grantClosing o s).notices = s.notices
      ∧ (grantClosing o s).port = s.port ∧ (grantClosing o s).settings = s.settings ∧ (grantClosing o s).xm = s.xm
      ∧ (grantClosing o s).tickDue = s.tickDue ∧ (grantClosing o s).pending = s.pending := by
  unfold grantClosing
  repeat' split
  all_goals simp

/-- The grants of a pass keep what a pass keeps. -/
@[simp] theorem grants_frame (k : Nat) (s : State) :
    ((grants k s).1).now = s.now ∧ ((grants k s).1).resetHeld = s.resetHeld ∧ ((grants k s).1).line = s.line
      ∧ ((grants k s).1).guard = s.guard ∧ ((grants k s).1).watch = s.watch ∧ ((grants k s).1).capture = s.capture
      ∧ ((grants k s).1).notices = s.notices ∧ ((grants k s).1).port = s.port
      ∧ ((grants k s).1).settings = s.settings ∧ ((grants k s).1).xm = s.xm ∧ ((grants k s).1).tickDue = s.tickDue
      ∧ ((grants k s).1).pending = s.pending := by
  induction k generalizing s with
  | zero => simp [grants]
  | succ k ih =>
    unfold grants
    repeat' split
    all_goals simp [ih]

@[simp] theorem refreshWaits_frame (third : Bool) (s : State) :
    (refreshWaits third s).now = s.now ∧ (refreshWaits third s).resetHeld = s.resetHeld
      ∧ (refreshWaits third s).line = s.line ∧ (refreshWaits third s).meter = s.meter
      ∧ (refreshWaits third s).records = s.records ∧ (refreshWaits third s).relay = s.relay
      ∧ (refreshWaits third s).plans = s.plans ∧ (refreshWaits third s).guard = s.guard
      ∧ (refreshWaits third s).watch = s.watch ∧ (refreshWaits third s).capture = s.capture
      ∧ (refreshWaits third s).notices = s.notices ∧ (refreshWaits third s).port = s.port
      ∧ (refreshWaits third s).settings = s.settings ∧ (refreshWaits third s).xm = s.xm
      ∧ (refreshWaits third s).tickDue = s.tickDue ∧ (refreshWaits third s).pending = s.pending := by
  simp [refreshWaits]

@[simp] theorem dispatchPass_frame (s : State) :
    (dispatchPass s).now = s.now ∧ (dispatchPass s).resetHeld = s.resetHeld ∧ (dispatchPass s).line = s.line
      ∧ (dispatchPass s).guard = s.guard ∧ (dispatchPass s).watch = s.watch ∧ (dispatchPass s).capture = s.capture
      ∧ (dispatchPass s).notices = s.notices ∧ (dispatchPass s).port = s.port
      ∧ (dispatchPass s).settings = s.settings ∧ (dispatchPass s).xm = s.xm ∧ (dispatchPass s).tickDue = s.tickDue
      ∧ (dispatchPass s).pending = s.pending := by
  simp [dispatchPass]

@[simp] theorem joinEntry_frame (o : OutletIx) (d : Direction) (origin : Origin) (enteredAt : BitVec 32) (s : State) :
    (joinEntry o d origin enteredAt s).now = s.now ∧ (joinEntry o d origin enteredAt s).resetHeld = s.resetHeld
      ∧ (joinEntry o d origin enteredAt s).line = s.line ∧ (joinEntry o d origin enteredAt s).guard = s.guard
      ∧ (joinEntry o d origin enteredAt s).watch = s.watch ∧ (joinEntry o d origin enteredAt s).capture = s.capture
      ∧ (joinEntry o d origin enteredAt s).notices = s.notices ∧ (joinEntry o d origin enteredAt s).port = s.port
      ∧ (joinEntry o d origin enteredAt s).settings = s.settings ∧ (joinEntry o d origin enteredAt s).xm = s.xm
      ∧ (joinEntry o d origin enteredAt s).tickDue = s.tickDue
      ∧ (joinEntry o d origin enteredAt s).pending = s.pending := by
  simp [joinEntry]

@[simp] theorem removeEntry_frame (o : OutletIx) (s : State) :
    (removeEntry o s).now = s.now ∧ (removeEntry o s).resetHeld = s.resetHeld ∧ (removeEntry o s).line = s.line
      ∧ (removeEntry o s).meter = s.meter ∧ (removeEntry o s).records = s.records
      ∧ (removeEntry o s).relay = s.relay ∧ (removeEntry o s).plans = s.plans ∧ (removeEntry o s).guard = s.guard
      ∧ (removeEntry o s).watch = s.watch ∧ (removeEntry o s).capture = s.capture
      ∧ (removeEntry o s).notices = s.notices ∧ (removeEntry o s).port = s.port
      ∧ (removeEntry o s).settings = s.settings ∧ (removeEntry o s).xm = s.xm
      ∧ (removeEntry o s).tickDue = s.tickDue ∧ (removeEntry o s).pending = s.pending := by
  simp [removeEntry]

@[simp] theorem repause_frame (s : State) :
    (repause s).now = s.now ∧ (repause s).resetHeld = s.resetHeld ∧ (repause s).line = s.line
      ∧ (repause s).meter = s.meter ∧ (repause s).records = s.records ∧ (repause s).relay = s.relay
      ∧ (repause s).plans = s.plans ∧ (repause s).guard = s.guard ∧ (repause s).watch = s.watch
      ∧ (repause s).capture = s.capture ∧ (repause s).notices = s.notices ∧ (repause s).port = s.port
      ∧ (repause s).settings = s.settings ∧ (repause s).xm = s.xm ∧ (repause s).tickDue = s.tickDue
      ∧ (repause s).pending = s.pending := by
  simp [repause]

@[simp] theorem stopWaits_frame (s : State) :
    (stopWaits s).now = s.now ∧ (stopWaits s).resetHeld = s.resetHeld ∧ (stopWaits s).line = s.line
      ∧ (stopWaits s).meter = s.meter ∧ (stopWaits s).records = s.records ∧ (stopWaits s).relay = s.relay
      ∧ (stopWaits s).plans = s.plans ∧ (stopWaits s).guard = s.guard ∧ (stopWaits s).watch = s.watch
      ∧ (stopWaits s).capture = s.capture ∧ (stopWaits s).notices = s.notices ∧ (stopWaits s).port = s.port
      ∧ (stopWaits s).settings = s.settings ∧ (stopWaits s).xm = s.xm ∧ (stopWaits s).tickDue = s.tickDue
      ∧ (stopWaits s).pending = s.pending := by
  simp [stopWaits]

@[simp] theorem branchWaits_frame (b : BranchIx) (s : State) :
    (branchWaits b s).now = s.now ∧ (branchWaits b s).resetHeld = s.resetHeld ∧ (branchWaits b s).line = s.line
      ∧ (branchWaits b s).meter = s.meter ∧ (branchWaits b s).records = s.records
      ∧ (branchWaits b s).relay = s.relay ∧ (branchWaits b s).plans = s.plans ∧ (branchWaits b s).guard = s.guard
      ∧ (branchWaits b s).watch = s.watch ∧ (branchWaits b s).capture = s.capture
      ∧ (branchWaits b s).notices = s.notices ∧ (branchWaits b s).port = s.port
      ∧ (branchWaits b s).settings = s.settings ∧ (branchWaits b s).xm = s.xm
      ∧ (branchWaits b s).tickDue = s.tickDue ∧ (branchWaits b s).pending = s.pending := by
  unfold branchWaits
  repeat' split
  all_goals simp

@[simp] theorem recordClosingStart_frame (o : OutletIx) (s : State) :
    (recordClosingStart o s).now = s.now ∧ (recordClosingStart o s).resetHeld = s.resetHeld
      ∧ (recordClosingStart o s).line = s.line ∧ (recordClosingStart o s).meter = s.meter
      ∧ (recordClosingStart o s).records = s.records ∧ (recordClosingStart o s).relay = s.relay
      ∧ (recordClosingStart o s).plans = s.plans ∧ (recordClosingStart o s).guard = s.guard
      ∧ (recordClosingStart o s).watch = s.watch ∧ (recordClosingStart o s).capture = s.capture
      ∧ (recordClosingStart o s).notices = s.notices ∧ (recordClosingStart o s).port = s.port
      ∧ (recordClosingStart o s).settings = s.settings ∧ (recordClosingStart o s).xm = s.xm
      ∧ (recordClosingStart o s).tickDue = s.tickDue ∧ (recordClosingStart o s).pending = s.pending := by
  simp [recordClosingStart]

@[simp] theorem retireClosings_frame (closing : BitVec 32) (s : State) :
    (retireClosings closing s).now = s.now ∧ (retireClosings closing s).resetHeld = s.resetHeld
      ∧ (retireClosings closing s).line = s.line ∧ (retireClosings closing s).meter = s.meter
      ∧ (retireClosings closing s).records = s.records ∧ (retireClosings closing s).relay = s.relay
      ∧ (retireClosings closing s).plans = s.plans ∧ (retireClosings closing s).guard = s.guard
      ∧ (retireClosings closing s).watch = s.watch ∧ (retireClosings closing s).capture = s.capture
      ∧ (retireClosings closing s).notices = s.notices ∧ (retireClosings closing s).port = s.port
      ∧ (retireClosings closing s).settings = s.settings ∧ (retireClosings closing s).xm = s.xm
      ∧ (retireClosings closing s).tickDue = s.tickDue ∧ (retireClosings closing s).pending = s.pending := by
  simp [retireClosings]


/-! ### WatchOps -/

@[simp] theorem reevaluate_frame (o : OutletIx) (s : State) :
    (reevaluate o s).now = s.now ∧ (reevaluate o s).resetHeld = s.resetHeld ∧ (reevaluate o s).line = s.line
      ∧ (reevaluate o s).meter = s.meter ∧ (reevaluate o s).records = s.records ∧ (reevaluate o s).relay = s.relay
      ∧ (reevaluate o s).sched = s.sched ∧ (reevaluate o s).plans = s.plans ∧ (reevaluate o s).guard = s.guard
      ∧ (reevaluate o s).capture = s.capture ∧ (reevaluate o s).notices = s.notices
      ∧ (reevaluate o s).port = s.port ∧ (reevaluate o s).settings = s.settings ∧ (reevaluate o s).xm = s.xm
      ∧ (reevaluate o s).tickDue = s.tickDue ∧ (reevaluate o s).pending = s.pending := by
  simp [reevaluate]

@[simp] theorem forAll_reevaluate_frame (xs : List OutletIx) (s : State) :
    (forAll xs reevaluate s).now = s.now ∧ (forAll xs reevaluate s).resetHeld = s.resetHeld
      ∧ (forAll xs reevaluate s).line = s.line ∧ (forAll xs reevaluate s).meter = s.meter
      ∧ (forAll xs reevaluate s).records = s.records ∧ (forAll xs reevaluate s).relay = s.relay
      ∧ (forAll xs reevaluate s).sched = s.sched ∧ (forAll xs reevaluate s).plans = s.plans
      ∧ (forAll xs reevaluate s).guard = s.guard ∧ (forAll xs reevaluate s).capture = s.capture
      ∧ (forAll xs reevaluate s).notices = s.notices ∧ (forAll xs reevaluate s).port = s.port
      ∧ (forAll xs reevaluate s).settings = s.settings ∧ (forAll xs reevaluate s).xm = s.xm
      ∧ (forAll xs reevaluate s).tickDue = s.tickDue ∧ (forAll xs reevaluate s).pending = s.pending :=
  ⟨forAll_keeps State.now (fun _ _ => by simp) xs s,
    forAll_keeps State.resetHeld (fun _ _ => by simp) xs s,
    forAll_keeps State.line (fun _ _ => by simp) xs s,
    forAll_keeps State.meter (fun _ _ => by simp) xs s,
    forAll_keeps State.records (fun _ _ => by simp) xs s,
    forAll_keeps State.relay (fun _ _ => by simp) xs s,
    forAll_keeps State.sched (fun _ _ => by simp) xs s,
    forAll_keeps State.plans (fun _ _ => by simp) xs s,
    forAll_keeps State.guard (fun _ _ => by simp) xs s,
    forAll_keeps State.capture (fun _ _ => by simp) xs s,
    forAll_keeps State.notices (fun _ _ => by simp) xs s,
    forAll_keeps State.port (fun _ _ => by simp) xs s,
    forAll_keeps State.settings (fun _ _ => by simp) xs s,
    forAll_keeps State.xm (fun _ _ => by simp) xs s,
    forAll_keeps State.tickDue (fun _ _ => by simp) xs s,
    forAll_keeps State.pending (fun _ _ => by simp) xs s⟩

@[simp] theorem watchOpEnd_frame (o : OutletIx) (d : Direction) (r : OpResult) (s : State) :
    (watchOpEnd o d r s).now = s.now ∧ (watchOpEnd o d r s).resetHeld = s.resetHeld
      ∧ (watchOpEnd o d r s).line = s.line ∧ (watchOpEnd o d r s).meter = s.meter
      ∧ (watchOpEnd o d r s).records = s.records ∧ (watchOpEnd o d r s).relay = s.relay
      ∧ (watchOpEnd o d r s).sched = s.sched ∧ (watchOpEnd o d r s).plans = s.plans
      ∧ (watchOpEnd o d r s).guard = s.guard ∧ (watchOpEnd o d r s).capture = s.capture
      ∧ (watchOpEnd o d r s).notices = s.notices ∧ (watchOpEnd o d r s).port = s.port
      ∧ (watchOpEnd o d r s).settings = s.settings ∧ (watchOpEnd o d r s).xm = s.xm
      ∧ (watchOpEnd o d r s).tickDue = s.tickDue ∧ (watchOpEnd o d r s).pending = s.pending := by
  unfold watchOpEnd
  repeat' split
  all_goals simp

@[simp] theorem giveUp_frame (o : OutletIx) (s : State) :
    (giveUp o s).now = s.now ∧ (giveUp o s).resetHeld = s.resetHeld ∧ (giveUp o s).line = s.line
      ∧ (giveUp o s).meter = s.meter ∧ (giveUp o s).records = s.records ∧ (giveUp o s).relay = s.relay
      ∧ (giveUp o s).sched = s.sched ∧ (giveUp o s).plans = s.plans ∧ (giveUp o s).guard = s.guard
      ∧ (giveUp o s).capture = s.capture ∧ (giveUp o s).port = s.port ∧ (giveUp o s).settings = s.settings
      ∧ (giveUp o s).xm = s.xm ∧ (giveUp o s).tickDue = s.tickDue ∧ (giveUp o s).pending = s.pending := by
  simp [giveUp]

@[simp] theorem watchPlanEnded_frame (o : OutletIx) (out : PlanOutcome) (s : State) :
    (watchPlanEnded o out s).now = s.now ∧ (watchPlanEnded o out s).resetHeld = s.resetHeld
      ∧ (watchPlanEnded o out s).line = s.line ∧ (watchPlanEnded o out s).meter = s.meter
      ∧ (watchPlanEnded o out s).records = s.records ∧ (watchPlanEnded o out s).relay = s.relay
      ∧ (watchPlanEnded o out s).sched = s.sched ∧ (watchPlanEnded o out s).plans = s.plans
      ∧ (watchPlanEnded o out s).guard = s.guard ∧ (watchPlanEnded o out s).capture = s.capture
      ∧ (watchPlanEnded o out s).port = s.port ∧ (watchPlanEnded o out s).settings = s.settings
      ∧ (watchPlanEnded o out s).xm = s.xm ∧ (watchPlanEnded o out s).tickDue = s.tickDue
      ∧ (watchPlanEnded o out s).pending = s.pending := by
  unfold watchPlanEnded
  repeat' split
  all_goals simp

@[simp] theorem watchPlanEnd_frame (o : OutletIx) (origin : Origin) (out : PlanOutcome) (s : State) :
    (watchPlanEnd o origin out s).now = s.now ∧ (watchPlanEnd o origin out s).resetHeld = s.resetHeld
      ∧ (watchPlanEnd o origin out s).line = s.line ∧ (watchPlanEnd o origin out s).meter = s.meter
      ∧ (watchPlanEnd o origin out s).records = s.records ∧ (watchPlanEnd o origin out s).relay = s.relay
      ∧ (watchPlanEnd o origin out s).sched = s.sched ∧ (watchPlanEnd o origin out s).plans = s.plans
      ∧ (watchPlanEnd o origin out s).guard = s.guard ∧ (watchPlanEnd o origin out s).capture = s.capture
      ∧ (watchPlanEnd o origin out s).port = s.port ∧ (watchPlanEnd o origin out s).settings = s.settings
      ∧ (watchPlanEnd o origin out s).xm = s.xm ∧ (watchPlanEnd o origin out s).tickDue = s.tickDue
      ∧ (watchPlanEnd o origin out s).pending = s.pending := by
  unfold watchPlanEnd
  repeat' split
  all_goals simp

@[simp] theorem reevaluateAll_frame (os : List OutletIx) (s : State) :
    (reevaluateAll os s).now = s.now ∧ (reevaluateAll os s).resetHeld = s.resetHeld
      ∧ (reevaluateAll os s).line = s.line ∧ (reevaluateAll os s).meter = s.meter
      ∧ (reevaluateAll os s).records = s.records ∧ (reevaluateAll os s).relay = s.relay
      ∧ (reevaluateAll os s).sched = s.sched ∧ (reevaluateAll os s).plans = s.plans
      ∧ (reevaluateAll os s).guard = s.guard ∧ (reevaluateAll os s).capture = s.capture
      ∧ (reevaluateAll os s).notices = s.notices ∧ (reevaluateAll os s).port = s.port
      ∧ (reevaluateAll os s).settings = s.settings ∧ (reevaluateAll os s).xm = s.xm
      ∧ (reevaluateAll os s).tickDue = s.tickDue ∧ (reevaluateAll os s).pending = s.pending := by
  simp [reevaluateAll]

@[simp] theorem watchCloseOne_frame (o : OutletIx) (s : State) :
    (watchCloseOne o s).now = s.now ∧ (watchCloseOne o s).resetHeld = s.resetHeld
      ∧ (watchCloseOne o s).line = s.line ∧ (watchCloseOne o s).meter = s.meter
      ∧ (watchCloseOne o s).records = s.records ∧ (watchCloseOne o s).relay = s.relay
      ∧ (watchCloseOne o s).sched = s.sched ∧ (watchCloseOne o s).plans = s.plans
      ∧ (watchCloseOne o s).guard = s.guard ∧ (watchCloseOne o s).capture = s.capture
      ∧ (watchCloseOne o s).notices = s.notices ∧ (watchCloseOne o s).port = s.port
      ∧ (watchCloseOne o s).settings = s.settings ∧ (watchCloseOne o s).xm = s.xm
      ∧ (watchCloseOne o s).tickDue = s.tickDue ∧ (watchCloseOne o s).pending = s.pending := by
  simp [watchCloseOne]

@[simp] theorem forAll_watchCloseOne_frame (xs : List OutletIx) (s : State) :
    (forAll xs watchCloseOne s).now = s.now ∧ (forAll xs watchCloseOne s).resetHeld = s.resetHeld
      ∧ (forAll xs watchCloseOne s).line = s.line ∧ (forAll xs watchCloseOne s).meter = s.meter
      ∧ (forAll xs watchCloseOne s).records = s.records ∧ (forAll xs watchCloseOne s).relay = s.relay
      ∧ (forAll xs watchCloseOne s).sched = s.sched ∧ (forAll xs watchCloseOne s).plans = s.plans
      ∧ (forAll xs watchCloseOne s).guard = s.guard ∧ (forAll xs watchCloseOne s).capture = s.capture
      ∧ (forAll xs watchCloseOne s).notices = s.notices ∧ (forAll xs watchCloseOne s).port = s.port
      ∧ (forAll xs watchCloseOne s).settings = s.settings ∧ (forAll xs watchCloseOne s).xm = s.xm
      ∧ (forAll xs watchCloseOne s).tickDue = s.tickDue ∧ (forAll xs watchCloseOne s).pending = s.pending :=
  ⟨forAll_keeps State.now (fun _ _ => by simp) xs s,
    forAll_keeps State.resetHeld (fun _ _ => by simp) xs s,
    forAll_keeps State.line (fun _ _ => by simp) xs s,
    forAll_keeps State.meter (fun _ _ => by simp) xs s,
    forAll_keeps State.records (fun _ _ => by simp) xs s,
    forAll_keeps State.relay (fun _ _ => by simp) xs s,
    forAll_keeps State.sched (fun _ _ => by simp) xs s,
    forAll_keeps State.plans (fun _ _ => by simp) xs s,
    forAll_keeps State.guard (fun _ _ => by simp) xs s,
    forAll_keeps State.capture (fun _ _ => by simp) xs s,
    forAll_keeps State.notices (fun _ _ => by simp) xs s,
    forAll_keeps State.port (fun _ _ => by simp) xs s,
    forAll_keeps State.settings (fun _ _ => by simp) xs s,
    forAll_keeps State.xm (fun _ _ => by simp) xs s,
    forAll_keeps State.tickDue (fun _ _ => by simp) xs s,
    forAll_keeps State.pending (fun _ _ => by simp) xs s⟩

@[simp] theorem watchClose_frame (s : State) :
    (watchClose s).now = s.now ∧ (watchClose s).resetHeld = s.resetHeld ∧ (watchClose s).line = s.line
      ∧ (watchClose s).meter = s.meter ∧ (watchClose s).records = s.records ∧ (watchClose s).relay = s.relay
      ∧ (watchClose s).sched = s.sched ∧ (watchClose s).plans = s.plans ∧ (watchClose s).guard = s.guard
      ∧ (watchClose s).capture = s.capture ∧ (watchClose s).notices = s.notices ∧ (watchClose s).port = s.port
      ∧ (watchClose s).settings = s.settings ∧ (watchClose s).xm = s.xm ∧ (watchClose s).tickDue = s.tickDue
      ∧ (watchClose s).pending = s.pending := by
  simp [watchClose]

@[simp] theorem takeKick_frame (v : Word) (s : State) :
    (takeKick v s).now = s.now ∧ (takeKick v s).resetHeld = s.resetHeld ∧ (takeKick v s).line = s.line
      ∧ (takeKick v s).meter = s.meter ∧ (takeKick v s).records = s.records ∧ (takeKick v s).relay = s.relay
      ∧ (takeKick v s).sched = s.sched ∧ (takeKick v s).plans = s.plans ∧ (takeKick v s).guard = s.guard
      ∧ (takeKick v s).capture = s.capture ∧ (takeKick v s).notices = s.notices ∧ (takeKick v s).port = s.port
      ∧ (takeKick v s).settings = s.settings ∧ (takeKick v s).xm = s.xm ∧ (takeKick v s).tickDue = s.tickDue
      ∧ (takeKick v s).pending = s.pending := by
  unfold takeKick
  repeat' split
  all_goals simp

@[simp] theorem tickWatch_frame (s : State) :
    (tickWatch s).now = s.now ∧ (tickWatch s).resetHeld = s.resetHeld ∧ (tickWatch s).line = s.line
      ∧ (tickWatch s).meter = s.meter ∧ (tickWatch s).records = s.records ∧ (tickWatch s).relay = s.relay
      ∧ (tickWatch s).sched = s.sched ∧ (tickWatch s).plans = s.plans ∧ (tickWatch s).guard = s.guard
      ∧ (tickWatch s).capture = s.capture ∧ (tickWatch s).notices = s.notices ∧ (tickWatch s).port = s.port
      ∧ (tickWatch s).settings = s.settings ∧ (tickWatch s).xm = s.xm ∧ (tickWatch s).pending = s.pending := by
  simp [tickWatch]

@[simp] theorem endGrace_frame (o : OutletIx) (s : State) :
    (endGrace o s).now = s.now ∧ (endGrace o s).resetHeld = s.resetHeld ∧ (endGrace o s).line = s.line
      ∧ (endGrace o s).meter = s.meter ∧ (endGrace o s).records = s.records ∧ (endGrace o s).relay = s.relay
      ∧ (endGrace o s).sched = s.sched ∧ (endGrace o s).plans = s.plans ∧ (endGrace o s).guard = s.guard
      ∧ (endGrace o s).capture = s.capture ∧ (endGrace o s).notices = s.notices ∧ (endGrace o s).port = s.port
      ∧ (endGrace o s).settings = s.settings ∧ (endGrace o s).xm = s.xm ∧ (endGrace o s).tickDue = s.tickDue
      ∧ (endGrace o s).pending = s.pending := by
  unfold endGrace
  repeat' split
  all_goals simp

@[simp] theorem reachSpan_frame (o : OutletIx) (s : State) :
    (reachSpan o s).now = s.now ∧ (reachSpan o s).resetHeld = s.resetHeld ∧ (reachSpan o s).line = s.line
      ∧ (reachSpan o s).meter = s.meter ∧ (reachSpan o s).records = s.records ∧ (reachSpan o s).relay = s.relay
      ∧ (reachSpan o s).sched = s.sched ∧ (reachSpan o s).plans = s.plans ∧ (reachSpan o s).guard = s.guard
      ∧ (reachSpan o s).capture = s.capture ∧ (reachSpan o s).notices = s.notices ∧ (reachSpan o s).port = s.port
      ∧ (reachSpan o s).settings = s.settings ∧ (reachSpan o s).xm = s.xm ∧ (reachSpan o s).tickDue = s.tickDue
      ∧ (reachSpan o s).pending = s.pending := by
  simp [reachSpan]

@[simp] theorem watchApply_frame (o : OutletIx) (s : State) :
    (watchApply o s).now = s.now ∧ (watchApply o s).resetHeld = s.resetHeld ∧ (watchApply o s).line = s.line
      ∧ (watchApply o s).meter = s.meter ∧ (watchApply o s).records = s.records ∧ (watchApply o s).relay = s.relay
      ∧ (watchApply o s).sched = s.sched ∧ (watchApply o s).plans = s.plans ∧ (watchApply o s).guard = s.guard
      ∧ (watchApply o s).capture = s.capture ∧ (watchApply o s).notices = s.notices
      ∧ (watchApply o s).port = s.port ∧ (watchApply o s).settings = s.settings ∧ (watchApply o s).xm = s.xm
      ∧ (watchApply o s).tickDue = s.tickDue ∧ (watchApply o s).pending = s.pending := by
  unfold watchApply
  repeat' split
  all_goals simp

@[simp] theorem watchWarmStep_frame (o : OutletIx) (s : State) :
    (watchWarmStep o s).now = s.now ∧ (watchWarmStep o s).resetHeld = s.resetHeld
      ∧ (watchWarmStep o s).line = s.line ∧ (watchWarmStep o s).meter = s.meter
      ∧ (watchWarmStep o s).records = s.records ∧ (watchWarmStep o s).relay = s.relay
      ∧ (watchWarmStep o s).sched = s.sched ∧ (watchWarmStep o s).plans = s.plans
      ∧ (watchWarmStep o s).guard = s.guard ∧ (watchWarmStep o s).capture = s.capture
      ∧ (watchWarmStep o s).notices = s.notices ∧ (watchWarmStep o s).port = s.port
      ∧ (watchWarmStep o s).settings = s.settings ∧ (watchWarmStep o s).xm = s.xm
      ∧ (watchWarmStep o s).tickDue = s.tickDue ∧ (watchWarmStep o s).pending = s.pending := by
  simp [watchWarmStep]

@[simp] theorem forAll_watchWarmStep_frame (xs : List OutletIx) (s : State) :
    (forAll xs watchWarmStep s).now = s.now ∧ (forAll xs watchWarmStep s).resetHeld = s.resetHeld
      ∧ (forAll xs watchWarmStep s).line = s.line ∧ (forAll xs watchWarmStep s).meter = s.meter
      ∧ (forAll xs watchWarmStep s).records = s.records ∧ (forAll xs watchWarmStep s).relay = s.relay
      ∧ (forAll xs watchWarmStep s).sched = s.sched ∧ (forAll xs watchWarmStep s).plans = s.plans
      ∧ (forAll xs watchWarmStep s).guard = s.guard ∧ (forAll xs watchWarmStep s).capture = s.capture
      ∧ (forAll xs watchWarmStep s).notices = s.notices ∧ (forAll xs watchWarmStep s).port = s.port
      ∧ (forAll xs watchWarmStep s).settings = s.settings ∧ (forAll xs watchWarmStep s).xm = s.xm
      ∧ (forAll xs watchWarmStep s).tickDue = s.tickDue ∧ (forAll xs watchWarmStep s).pending = s.pending :=
  ⟨forAll_keeps State.now (fun _ _ => by simp) xs s,
    forAll_keeps State.resetHeld (fun _ _ => by simp) xs s,
    forAll_keeps State.line (fun _ _ => by simp) xs s,
    forAll_keeps State.meter (fun _ _ => by simp) xs s,
    forAll_keeps State.records (fun _ _ => by simp) xs s,
    forAll_keeps State.relay (fun _ _ => by simp) xs s,
    forAll_keeps State.sched (fun _ _ => by simp) xs s,
    forAll_keeps State.plans (fun _ _ => by simp) xs s,
    forAll_keeps State.guard (fun _ _ => by simp) xs s,
    forAll_keeps State.capture (fun _ _ => by simp) xs s,
    forAll_keeps State.notices (fun _ _ => by simp) xs s,
    forAll_keeps State.port (fun _ _ => by simp) xs s,
    forAll_keeps State.settings (fun _ _ => by simp) xs s,
    forAll_keeps State.xm (fun _ _ => by simp) xs s,
    forAll_keeps State.tickDue (fun _ _ => by simp) xs s,
    forAll_keeps State.pending (fun _ _ => by simp) xs s⟩

@[simp] theorem watchWarm_frame (s : State) :
    (watchWarm s).now = s.now ∧ (watchWarm s).resetHeld = s.resetHeld ∧ (watchWarm s).line = s.line
      ∧ (watchWarm s).meter = s.meter ∧ (watchWarm s).records = s.records ∧ (watchWarm s).relay = s.relay
      ∧ (watchWarm s).sched = s.sched ∧ (watchWarm s).plans = s.plans ∧ (watchWarm s).guard = s.guard
      ∧ (watchWarm s).capture = s.capture ∧ (watchWarm s).notices = s.notices ∧ (watchWarm s).port = s.port
      ∧ (watchWarm s).settings = s.settings ∧ (watchWarm s).xm = s.xm ∧ (watchWarm s).tickDue = s.tickDue
      ∧ (watchWarm s).pending = s.pending := by
  simp [watchWarm]


/-! ### PlanOps -/

@[simp] theorem stopHoldIfUnmarked_frame (b : BranchIx) (s : State) :
    (stopHoldIfUnmarked b s).now = s.now ∧ (stopHoldIfUnmarked b s).resetHeld = s.resetHeld
      ∧ (stopHoldIfUnmarked b s).line = s.line ∧ (stopHoldIfUnmarked b s).meter = s.meter
      ∧ (stopHoldIfUnmarked b s).records = s.records ∧ (stopHoldIfUnmarked b s).relay = s.relay
      ∧ (stopHoldIfUnmarked b s).sched = s.sched ∧ (stopHoldIfUnmarked b s).plans = s.plans
      ∧ (stopHoldIfUnmarked b s).watch = s.watch ∧ (stopHoldIfUnmarked b s).capture = s.capture
      ∧ (stopHoldIfUnmarked b s).notices = s.notices ∧ (stopHoldIfUnmarked b s).port = s.port
      ∧ (stopHoldIfUnmarked b s).settings = s.settings ∧ (stopHoldIfUnmarked b s).xm = s.xm
      ∧ (stopHoldIfUnmarked b s).tickDue = s.tickDue ∧ (stopHoldIfUnmarked b s).pending = s.pending := by
  unfold stopHoldIfUnmarked
  repeat' split
  all_goals simp

@[simp] theorem clearShedMark_frame (o : OutletIx) (s : State) :
    (clearShedMark o s).now = s.now ∧ (clearShedMark o s).resetHeld = s.resetHeld
      ∧ (clearShedMark o s).line = s.line ∧ (clearShedMark o s).meter = s.meter
      ∧ (clearShedMark o s).records = s.records ∧ (clearShedMark o s).relay = s.relay
      ∧ (clearShedMark o s).sched = s.sched ∧ (clearShedMark o s).plans = s.plans
      ∧ (clearShedMark o s).watch = s.watch ∧ (clearShedMark o s).capture = s.capture
      ∧ (clearShedMark o s).notices = s.notices ∧ (clearShedMark o s).port = s.port
      ∧ (clearShedMark o s).settings = s.settings ∧ (clearShedMark o s).xm = s.xm
      ∧ (clearShedMark o s).tickDue = s.tickDue ∧ (clearShedMark o s).pending = s.pending := by
  unfold clearShedMark
  repeat' split
  all_goals simp

@[simp] theorem guardCreation_frame (o : OutletIx) (origin : Origin) (s : State) :
    (guardCreation o origin s).now = s.now ∧ (guardCreation o origin s).resetHeld = s.resetHeld
      ∧ (guardCreation o origin s).line = s.line ∧ (guardCreation o origin s).meter = s.meter
      ∧ (guardCreation o origin s).records = s.records ∧ (guardCreation o origin s).relay = s.relay
      ∧ (guardCreation o origin s).sched = s.sched ∧ (guardCreation o origin s).plans = s.plans
      ∧ (guardCreation o origin s).watch = s.watch ∧ (guardCreation o origin s).capture = s.capture
      ∧ (guardCreation o origin s).notices = s.notices ∧ (guardCreation o origin s).port = s.port
      ∧ (guardCreation o origin s).settings = s.settings ∧ (guardCreation o origin s).xm = s.xm
      ∧ (guardCreation o origin s).tickDue = s.tickDue ∧ (guardCreation o origin s).pending = s.pending := by
  unfold guardCreation
  repeat' split
  all_goals simp

@[simp] theorem placePlan_frame (o : OutletIx) (r : PlanRequest) (p : Plan) (s : State) :
    (placePlan o r p s).now = s.now ∧ (placePlan o r p s).resetHeld = s.resetHeld
      ∧ (placePlan o r p s).line = s.line ∧ (placePlan o r p s).meter = s.meter
      ∧ (placePlan o r p s).records = s.records ∧ (placePlan o r p s).relay = s.relay
      ∧ (placePlan o r p s).sched = s.sched ∧ (placePlan o r p s).guard = s.guard
      ∧ (placePlan o r p s).watch = s.watch ∧ (placePlan o r p s).capture = s.capture
      ∧ (placePlan o r p s).notices = s.notices ∧ (placePlan o r p s).port = s.port
      ∧ (placePlan o r p s).settings = s.settings ∧ (placePlan o r p s).xm = s.xm
      ∧ (placePlan o r p s).tickDue = s.tickDue ∧ (placePlan o r p s).pending = s.pending := by
  simp [placePlan]

@[simp] theorem reportCreation_frame (o : OutletIx) (origin : Origin) (s : State) :
    (reportCreation o origin s).now = s.now ∧ (reportCreation o origin s).resetHeld = s.resetHeld
      ∧ (reportCreation o origin s).line = s.line ∧ (reportCreation o origin s).meter = s.meter
      ∧ (reportCreation o origin s).records = s.records ∧ (reportCreation o origin s).relay = s.relay
      ∧ (reportCreation o origin s).sched = s.sched ∧ (reportCreation o origin s).plans = s.plans
      ∧ (reportCreation o origin s).capture = s.capture ∧ (reportCreation o origin s).notices = s.notices
      ∧ (reportCreation o origin s).port = s.port ∧ (reportCreation o origin s).settings = s.settings
      ∧ (reportCreation o origin s).xm = s.xm ∧ (reportCreation o origin s).tickDue = s.tickDue
      ∧ (reportCreation o origin s).pending = s.pending := by
  simp [reportCreation]

@[simp] theorem createPlan_frame (o : OutletIx) (r : PlanRequest) (st : PlanStep) (s : State) :
    (createPlan o r st s).now = s.now ∧ (createPlan o r st s).resetHeld = s.resetHeld
      ∧ (createPlan o r st s).line = s.line ∧ (createPlan o r st s).meter = s.meter
      ∧ (createPlan o r st s).records = s.records ∧ (createPlan o r st s).relay = s.relay
      ∧ (createPlan o r st s).sched = s.sched ∧ (createPlan o r st s).capture = s.capture
      ∧ (createPlan o r st s).notices = s.notices ∧ (createPlan o r st s).port = s.port
      ∧ (createPlan o r st s).settings = s.settings ∧ (createPlan o r st s).xm = s.xm
      ∧ (createPlan o r st s).tickDue = s.tickDue ∧ (createPlan o r st s).pending = s.pending := by
  simp [createPlan]

@[simp] theorem enterQueued_frame (o : OutletIx) (d : Direction) (enteredAt : BitVec 32) (s : State) :
    (enterQueued o d enteredAt s).now = s.now ∧ (enterQueued o d enteredAt s).resetHeld = s.resetHeld
      ∧ (enterQueued o d enteredAt s).line = s.line ∧ (enterQueued o d enteredAt s).guard = s.guard
      ∧ (enterQueued o d enteredAt s).watch = s.watch ∧ (enterQueued o d enteredAt s).capture = s.capture
      ∧ (enterQueued o d enteredAt s).notices = s.notices ∧ (enterQueued o d enteredAt s).port = s.port
      ∧ (enterQueued o d enteredAt s).settings = s.settings ∧ (enterQueued o d enteredAt s).xm = s.xm
      ∧ (enterQueued o d enteredAt s).tickDue = s.tickDue ∧ (enterQueued o d enteredAt s).pending = s.pending := by
  unfold enterQueued
  repeat' split
  all_goals simp

@[simp] theorem createQueued_frame (o : OutletIx) (r : PlanRequest) (d : Direction) (s : State) :
    (createQueued o r d s).now = s.now ∧ (createQueued o r d s).resetHeld = s.resetHeld
      ∧ (createQueued o r d s).line = s.line ∧ (createQueued o r d s).capture = s.capture
      ∧ (createQueued o r d s).notices = s.notices ∧ (createQueued o r d s).port = s.port
      ∧ (createQueued o r d s).settings = s.settings ∧ (createQueued o r d s).xm = s.xm
      ∧ (createQueued o r d s).tickDue = s.tickDue ∧ (createQueued o r d s).pending = s.pending := by
  simp [createQueued]

@[simp] theorem requestRelease_frame (o : OutletIx) (s : State) :
    (requestRelease o s).now = s.now ∧ (requestRelease o s).resetHeld = s.resetHeld
      ∧ (requestRelease o s).line = s.line ∧ (requestRelease o s).capture = s.capture
      ∧ (requestRelease o s).notices = s.notices ∧ (requestRelease o s).port = s.port
      ∧ (requestRelease o s).settings = s.settings ∧ (requestRelease o s).xm = s.xm
      ∧ (requestRelease o s).tickDue = s.tickDue ∧ (requestRelease o s).pending = s.pending := by
  simp [requestRelease]

@[simp] theorem releaseAtEnd_frame (o : OutletIx) (s : State) :
    (releaseAtEnd o s).now = s.now ∧ (releaseAtEnd o s).resetHeld = s.resetHeld ∧ (releaseAtEnd o s).line = s.line
      ∧ (releaseAtEnd o s).capture = s.capture ∧ (releaseAtEnd o s).notices = s.notices
      ∧ (releaseAtEnd o s).port = s.port ∧ (releaseAtEnd o s).settings = s.settings ∧ (releaseAtEnd o s).xm = s.xm
      ∧ (releaseAtEnd o s).tickDue = s.tickDue ∧ (releaseAtEnd o s).pending = s.pending := by
  unfold releaseAtEnd
  repeat' split
  all_goals simp

@[simp] theorem forAll_releaseAtEnd_frame (xs : List OutletIx) (s : State) :
    (forAll xs releaseAtEnd s).now = s.now ∧ (forAll xs releaseAtEnd s).resetHeld = s.resetHeld
      ∧ (forAll xs releaseAtEnd s).line = s.line ∧ (forAll xs releaseAtEnd s).capture = s.capture
      ∧ (forAll xs releaseAtEnd s).notices = s.notices ∧ (forAll xs releaseAtEnd s).port = s.port
      ∧ (forAll xs releaseAtEnd s).settings = s.settings ∧ (forAll xs releaseAtEnd s).xm = s.xm
      ∧ (forAll xs releaseAtEnd s).tickDue = s.tickDue ∧ (forAll xs releaseAtEnd s).pending = s.pending :=
  ⟨forAll_keeps State.now (fun _ _ => by simp) xs s,
    forAll_keeps State.resetHeld (fun _ _ => by simp) xs s,
    forAll_keeps State.line (fun _ _ => by simp) xs s,
    forAll_keeps State.capture (fun _ _ => by simp) xs s,
    forAll_keeps State.notices (fun _ _ => by simp) xs s,
    forAll_keeps State.port (fun _ _ => by simp) xs s,
    forAll_keeps State.settings (fun _ _ => by simp) xs s,
    forAll_keeps State.xm (fun _ _ => by simp) xs s,
    forAll_keeps State.tickDue (fun _ _ => by simp) xs s,
    forAll_keeps State.pending (fun _ _ => by simp) xs s⟩

@[simp] theorem shedPlanEnd_frame (o : OutletIx) (origin : Origin) (s : State) :
    (shedPlanEnd o origin s).now = s.now ∧ (shedPlanEnd o origin s).resetHeld = s.resetHeld
      ∧ (shedPlanEnd o origin s).line = s.line ∧ (shedPlanEnd o origin s).meter = s.meter
      ∧ (shedPlanEnd o origin s).records = s.records ∧ (shedPlanEnd o origin s).relay = s.relay
      ∧ (shedPlanEnd o origin s).sched = s.sched ∧ (shedPlanEnd o origin s).plans = s.plans
      ∧ (shedPlanEnd o origin s).watch = s.watch ∧ (shedPlanEnd o origin s).capture = s.capture
      ∧ (shedPlanEnd o origin s).notices = s.notices ∧ (shedPlanEnd o origin s).port = s.port
      ∧ (shedPlanEnd o origin s).settings = s.settings ∧ (shedPlanEnd o origin s).xm = s.xm
      ∧ (shedPlanEnd o origin s).tickDue = s.tickDue ∧ (shedPlanEnd o origin s).pending = s.pending := by
  unfold shedPlanEnd
  dsimp only
  repeat' split
  all_goals simp

@[simp] theorem groupEnd_frame (member : Bool) (out : PlanOutcome) (s : State) :
    (groupEnd member out s).now = s.now ∧ (groupEnd member out s).resetHeld = s.resetHeld
      ∧ (groupEnd member out s).line = s.line ∧ (groupEnd member out s).meter = s.meter
      ∧ (groupEnd member out s).records = s.records ∧ (groupEnd member out s).relay = s.relay
      ∧ (groupEnd member out s).sched = s.sched ∧ (groupEnd member out s).guard = s.guard
      ∧ (groupEnd member out s).watch = s.watch ∧ (groupEnd member out s).capture = s.capture
      ∧ (groupEnd member out s).notices = s.notices ∧ (groupEnd member out s).port = s.port
      ∧ (groupEnd member out s).settings = s.settings ∧ (groupEnd member out s).xm = s.xm
      ∧ (groupEnd member out s).tickDue = s.tickDue ∧ (groupEnd member out s).pending = s.pending := by
  unfold groupEnd
  repeat' split
  all_goals simp

@[simp] theorem finishGroup_frame (r : ResultCode) (s : State) :
    (finishGroup r s).now = s.now ∧ (finishGroup r s).resetHeld = s.resetHeld ∧ (finishGroup r s).line = s.line
      ∧ (finishGroup r s).meter = s.meter ∧ (finishGroup r s).records = s.records
      ∧ (finishGroup r s).relay = s.relay ∧ (finishGroup r s).sched = s.sched ∧ (finishGroup r s).guard = s.guard
      ∧ (finishGroup r s).watch = s.watch ∧ (finishGroup r s).capture = s.capture ∧ (finishGroup r s).port = s.port
      ∧ (finishGroup r s).settings = s.settings ∧ (finishGroup r s).xm = s.xm
      ∧ (finishGroup r s).tickDue = s.tickDue ∧ (finishGroup r s).pending = s.pending := by
  simp [finishGroup]

@[simp] theorem groupCheck_frame (s : State) :
    (groupCheck s).now = s.now ∧ (groupCheck s).resetHeld = s.resetHeld ∧ (groupCheck s).line = s.line
      ∧ (groupCheck s).meter = s.meter ∧ (groupCheck s).records = s.records ∧ (groupCheck s).relay = s.relay
      ∧ (groupCheck s).sched = s.sched ∧ (groupCheck s).guard = s.guard ∧ (groupCheck s).watch = s.watch
      ∧ (groupCheck s).capture = s.capture ∧ (groupCheck s).port = s.port ∧ (groupCheck s).settings = s.settings
      ∧ (groupCheck s).xm = s.xm ∧ (groupCheck s).tickDue = s.tickDue ∧ (groupCheck s).pending = s.pending := by
  unfold groupCheck
  repeat' split
  all_goals simp

@[simp] theorem closePlan_frame (o : OutletIx) (p : Plan) (out : PlanOutcome) (s : State) :
    (closePlan o p out s).now = s.now ∧ (closePlan o p out s).resetHeld = s.resetHeld
      ∧ (closePlan o p out s).line = s.line ∧ (closePlan o p out s).meter = s.meter
      ∧ (closePlan o p out s).records = s.records ∧ (closePlan o p out s).relay = s.relay
      ∧ (closePlan o p out s).sched = s.sched ∧ (closePlan o p out s).capture = s.capture
      ∧ (closePlan o p out s).port = s.port ∧ (closePlan o p out s).settings = s.settings
      ∧ (closePlan o p out s).xm = s.xm ∧ (closePlan o p out s).tickDue = s.tickDue
      ∧ (closePlan o p out s).pending = s.pending := by
  simp [closePlan]

@[simp] theorem endPlanUnchecked_frame (o : OutletIx) (out : PlanOutcome) (s : State) :
    (endPlanUnchecked o out s).now = s.now ∧ (endPlanUnchecked o out s).resetHeld = s.resetHeld
      ∧ (endPlanUnchecked o out s).line = s.line ∧ (endPlanUnchecked o out s).capture = s.capture
      ∧ (endPlanUnchecked o out s).port = s.port ∧ (endPlanUnchecked o out s).settings = s.settings
      ∧ (endPlanUnchecked o out s).xm = s.xm ∧ (endPlanUnchecked o out s).tickDue = s.tickDue
      ∧ (endPlanUnchecked o out s).pending = s.pending := by
  unfold endPlanUnchecked
  repeat' split
  all_goals simp

@[simp] theorem endPlan_frame (o : OutletIx) (out : PlanOutcome) (s : State) :
    (endPlan o out s).now = s.now ∧ (endPlan o out s).resetHeld = s.resetHeld ∧ (endPlan o out s).line = s.line
      ∧ (endPlan o out s).capture = s.capture ∧ (endPlan o out s).port = s.port
      ∧ (endPlan o out s).settings = s.settings ∧ (endPlan o out s).xm = s.xm
      ∧ (endPlan o out s).tickDue = s.tickDue ∧ (endPlan o out s).pending = s.pending := by
  simp [endPlan]

@[simp] theorem lookAndGo_frame (o : OutletIx) (s : State) :
    (lookAndGo o s).now = s.now ∧ (lookAndGo o s).resetHeld = s.resetHeld ∧ (lookAndGo o s).line = s.line
      ∧ (lookAndGo o s).capture = s.capture ∧ (lookAndGo o s).port = s.port ∧ (lookAndGo o s).settings = s.settings
      ∧ (lookAndGo o s).xm = s.xm ∧ (lookAndGo o s).tickDue = s.tickDue ∧ (lookAndGo o s).pending = s.pending := by
  unfold lookAndGo
  repeat' split
  all_goals simp

@[simp] theorem reportSupersede_frame (o : OutletIx) (old : Plan) (s : State) :
    (reportSupersede o old s).now = s.now ∧ (reportSupersede o old s).resetHeld = s.resetHeld
      ∧ (reportSupersede o old s).line = s.line ∧ (reportSupersede o old s).meter = s.meter
      ∧ (reportSupersede o old s).records = s.records ∧ (reportSupersede o old s).relay = s.relay
      ∧ (reportSupersede o old s).sched = s.sched ∧ (reportSupersede o old s).capture = s.capture
      ∧ (reportSupersede o old s).port = s.port ∧ (reportSupersede o old s).settings = s.settings
      ∧ (reportSupersede o old s).xm = s.xm ∧ (reportSupersede o old s).tickDue = s.tickDue
      ∧ (reportSupersede o old s).pending = s.pending := by
  simp [reportSupersede]

@[simp] theorem supersede_frame (o : OutletIx) (old : Plan) (r : PlanRequest) (s : State) :
    (supersede o old r s).now = s.now ∧ (supersede o old r s).resetHeld = s.resetHeld
      ∧ (supersede o old r s).line = s.line ∧ (supersede o old r s).capture = s.capture
      ∧ (supersede o old r s).port = s.port ∧ (supersede o old r s).settings = s.settings
      ∧ (supersede o old r s).xm = s.xm ∧ (supersede o old r s).tickDue = s.tickDue
      ∧ (supersede o old r s).pending = s.pending := by
  unfold supersede
  dsimp only
  repeat' split
  all_goals simp

@[simp] theorem enterDwell_frame (o : OutletIx) (p : Plan) (s : State) :
    (enterDwell o p s).now = s.now ∧ (enterDwell o p s).resetHeld = s.resetHeld ∧ (enterDwell o p s).line = s.line
      ∧ (enterDwell o p s).meter = s.meter ∧ (enterDwell o p s).records = s.records
      ∧ (enterDwell o p s).relay = s.relay ∧ (enterDwell o p s).sched = s.sched
      ∧ (enterDwell o p s).guard = s.guard ∧ (enterDwell o p s).watch = s.watch
      ∧ (enterDwell o p s).capture = s.capture ∧ (enterDwell o p s).notices = s.notices
      ∧ (enterDwell o p s).port = s.port ∧ (enterDwell o p s).settings = s.settings ∧ (enterDwell o p s).xm = s.xm
      ∧ (enterDwell o p s).tickDue = s.tickDue ∧ (enterDwell o p s).pending = s.pending := by
  simp [enterDwell]

@[simp] theorem nextStep_frame (o : OutletIx) (p : Plan) (r : OpResult) (s : State) :
    (nextStep o p r s).now = s.now ∧ (nextStep o p r s).resetHeld = s.resetHeld ∧ (nextStep o p r s).line = s.line
      ∧ (nextStep o p r s).capture = s.capture ∧ (nextStep o p r s).port = s.port
      ∧ (nextStep o p r s).settings = s.settings ∧ (nextStep o p r s).xm = s.xm
      ∧ (nextStep o p r s).tickDue = s.tickDue ∧ (nextStep o p r s).pending = s.pending := by
  unfold nextStep
  repeat' split
  all_goals simp

@[simp] theorem planOpEnd_frame (o : OutletIx) (r : OpResult) (s : State) :
    (planOpEnd o r s).now = s.now ∧ (planOpEnd o r s).resetHeld = s.resetHeld ∧ (planOpEnd o r s).line = s.line
      ∧ (planOpEnd o r s).capture = s.capture ∧ (planOpEnd o r s).port = s.port
      ∧ (planOpEnd o r s).settings = s.settings ∧ (planOpEnd o r s).xm = s.xm
      ∧ (planOpEnd o r s).tickDue = s.tickDue ∧ (planOpEnd o r s).pending = s.pending := by
  unfold planOpEnd
  repeat' split
  all_goals simp

@[simp] theorem planWithdrawn_frame (o : OutletIx) (enteredAt : BitVec 32) (s : State) :
    (planWithdrawn o enteredAt s).now = s.now ∧ (planWithdrawn o enteredAt s).resetHeld = s.resetHeld
      ∧ (planWithdrawn o enteredAt s).line = s.line ∧ (planWithdrawn o enteredAt s).capture = s.capture
      ∧ (planWithdrawn o enteredAt s).port = s.port ∧ (planWithdrawn o enteredAt s).settings = s.settings
      ∧ (planWithdrawn o enteredAt s).xm = s.xm ∧ (planWithdrawn o enteredAt s).tickDue = s.tickDue
      ∧ (planWithdrawn o enteredAt s).pending = s.pending := by
  unfold planWithdrawn
  repeat' split
  all_goals simp

@[simp] theorem planResolved_frame (o : OutletIx) (s : State) :
    (planResolved o s).now = s.now ∧ (planResolved o s).resetHeld = s.resetHeld ∧ (planResolved o s).line = s.line
      ∧ (planResolved o s).capture = s.capture ∧ (planResolved o s).port = s.port
      ∧ (planResolved o s).settings = s.settings ∧ (planResolved o s).xm = s.xm
      ∧ (planResolved o s).tickDue = s.tickDue ∧ (planResolved o s).pending = s.pending := by
  unfold planResolved
  repeat' split
  all_goals simp

@[simp] theorem planTimedOut_frame (o : OutletIx) (s : State) :
    (planTimedOut o s).now = s.now ∧ (planTimedOut o s).resetHeld = s.resetHeld ∧ (planTimedOut o s).line = s.line
      ∧ (planTimedOut o s).capture = s.capture ∧ (planTimedOut o s).port = s.port
      ∧ (planTimedOut o s).settings = s.settings ∧ (planTimedOut o s).xm = s.xm
      ∧ (planTimedOut o s).tickDue = s.tickDue ∧ (planTimedOut o s).pending = s.pending := by
  simp [planTimedOut]

@[simp] theorem dwellOver_frame (o : OutletIx) (s : State) :
    (dwellOver o s).now = s.now ∧ (dwellOver o s).resetHeld = s.resetHeld ∧ (dwellOver o s).line = s.line
      ∧ (dwellOver o s).capture = s.capture ∧ (dwellOver o s).port = s.port ∧ (dwellOver o s).settings = s.settings
      ∧ (dwellOver o s).xm = s.xm ∧ (dwellOver o s).tickDue = s.tickDue ∧ (dwellOver o s).pending = s.pending := by
  unfold dwellOver
  repeat' split
  all_goals simp

@[simp] theorem cancelPlan_frame (o : OutletIx) (p : Plan) (s : State) :
    (cancelPlan o p s).now = s.now ∧ (cancelPlan o p s).resetHeld = s.resetHeld ∧ (cancelPlan o p s).line = s.line
      ∧ (cancelPlan o p s).capture = s.capture ∧ (cancelPlan o p s).port = s.port
      ∧ (cancelPlan o p s).settings = s.settings ∧ (cancelPlan o p s).xm = s.xm
      ∧ (cancelPlan o p s).tickDue = s.tickDue ∧ (cancelPlan o p s).pending = s.pending := by
  unfold cancelPlan
  repeat' split
  all_goals simp

@[simp] theorem createEnded_frame (o : OutletIx) (r : PlanRequest) (s : State) :
    (createEnded o r s).now = s.now ∧ (createEnded o r s).resetHeld = s.resetHeld
      ∧ (createEnded o r s).line = s.line ∧ (createEnded o r s).capture = s.capture
      ∧ (createEnded o r s).port = s.port ∧ (createEnded o r s).settings = s.settings
      ∧ (createEnded o r s).xm = s.xm ∧ (createEnded o r s).tickDue = s.tickDue
      ∧ (createEnded o r s).pending = s.pending := by
  simp [createEnded]

@[simp] theorem refuseIdle_frame (o : OutletIx) (origin : Origin) (kind : Word) (tag : BitVec 8) (code : ResultCode) (s : State) :
    (refuseIdle o origin kind tag code s).now = s.now
      ∧ (refuseIdle o origin kind tag code s).resetHeld = s.resetHeld
      ∧ (refuseIdle o origin kind tag code s).line = s.line ∧ (refuseIdle o origin kind tag code s).meter = s.meter
      ∧ (refuseIdle o origin kind tag code s).records = s.records
      ∧ (refuseIdle o origin kind tag code s).relay = s.relay
      ∧ (refuseIdle o origin kind tag code s).sched = s.sched
      ∧ (refuseIdle o origin kind tag code s).guard = s.guard
      ∧ (refuseIdle o origin kind tag code s).watch = s.watch
      ∧ (refuseIdle o origin kind tag code s).capture = s.capture
      ∧ (refuseIdle o origin kind tag code s).port = s.port
      ∧ (refuseIdle o origin kind tag code s).settings = s.settings
      ∧ (refuseIdle o origin kind tag code s).xm = s.xm ∧ (refuseIdle o origin kind tag code s).tickDue = s.tickDue
      ∧ (refuseIdle o origin kind tag code s).pending = s.pending := by
  simp [refuseIdle]

@[simp] theorem refuseActive_frame (o : OutletIx) (tag : BitVec 8) (code : ResultCode) (s : State) :
    (refuseActive o tag code s).now = s.now ∧ (refuseActive o tag code s).resetHeld = s.resetHeld
      ∧ (refuseActive o tag code s).line = s.line ∧ (refuseActive o tag code s).meter = s.meter
      ∧ (refuseActive o tag code s).records = s.records ∧ (refuseActive o tag code s).relay = s.relay
      ∧ (refuseActive o tag code s).sched = s.sched ∧ (refuseActive o tag code s).guard = s.guard
      ∧ (refuseActive o tag code s).watch = s.watch ∧ (refuseActive o tag code s).capture = s.capture
      ∧ (refuseActive o tag code s).port = s.port ∧ (refuseActive o tag code s).settings = s.settings
      ∧ (refuseActive o tag code s).xm = s.xm ∧ (refuseActive o tag code s).tickDue = s.tickDue
      ∧ (refuseActive o tag code s).pending = s.pending := by
  simp [refuseActive]

@[simp] theorem postIdle_frame (o : OutletIx) (k : PlanKind) (s : State) :
    (postIdle o k s).now = s.now ∧ (postIdle o k s).resetHeld = s.resetHeld ∧ (postIdle o k s).line = s.line
      ∧ (postIdle o k s).capture = s.capture ∧ (postIdle o k s).port = s.port
      ∧ (postIdle o k s).settings = s.settings ∧ (postIdle o k s).xm = s.xm ∧ (postIdle o k s).tickDue = s.tickDue
      ∧ (postIdle o k s).pending = s.pending := by
  unfold postIdle
  repeat' split
  all_goals simp

@[simp] theorem postActive_frame (o : OutletIx) (p : Plan) (k : PlanKind) (s : State) :
    (postActive o p k s).now = s.now ∧ (postActive o p k s).resetHeld = s.resetHeld
      ∧ (postActive o p k s).line = s.line ∧ (postActive o p k s).capture = s.capture
      ∧ (postActive o p k s).port = s.port ∧ (postActive o p k s).settings = s.settings
      ∧ (postActive o p k s).xm = s.xm ∧ (postActive o p k s).tickDue = s.tickDue
      ∧ (postActive o p k s).pending = s.pending := by
  unfold postActive
  repeat' split
  all_goals simp

@[simp] theorem postKind_frame (o : OutletIx) (k : PlanKind) (s : State) :
    (postKind o k s).now = s.now ∧ (postKind o k s).resetHeld = s.resetHeld ∧ (postKind o k s).line = s.line
      ∧ (postKind o k s).capture = s.capture ∧ (postKind o k s).port = s.port
      ∧ (postKind o k s).settings = s.settings ∧ (postKind o k s).xm = s.xm ∧ (postKind o k s).tickDue = s.tickDue
      ∧ (postKind o k s).pending = s.pending := by
  unfold postKind
  repeat' split
  all_goals simp

@[simp] theorem postCancel_frame (o : OutletIx) (s : State) :
    (postCancel o s).now = s.now ∧ (postCancel o s).resetHeld = s.resetHeld ∧ (postCancel o s).line = s.line
      ∧ (postCancel o s).capture = s.capture ∧ (postCancel o s).port = s.port
      ∧ (postCancel o s).settings = s.settings ∧ (postCancel o s).xm = s.xm ∧ (postCancel o s).tickDue = s.tickDue
      ∧ (postCancel o s).pending = s.pending := by
  unfold postCancel
  repeat' split
  all_goals simp

@[simp] theorem postUnknown_frame (o : OutletIx) (v : Word) (s : State) :
    (postUnknown o v s).now = s.now ∧ (postUnknown o v s).resetHeld = s.resetHeld
      ∧ (postUnknown o v s).line = s.line ∧ (postUnknown o v s).meter = s.meter
      ∧ (postUnknown o v s).records = s.records ∧ (postUnknown o v s).relay = s.relay
      ∧ (postUnknown o v s).sched = s.sched ∧ (postUnknown o v s).guard = s.guard
      ∧ (postUnknown o v s).watch = s.watch ∧ (postUnknown o v s).capture = s.capture
      ∧ (postUnknown o v s).port = s.port ∧ (postUnknown o v s).settings = s.settings
      ∧ (postUnknown o v s).xm = s.xm ∧ (postUnknown o v s).tickDue = s.tickDue
      ∧ (postUnknown o v s).pending = s.pending := by
  unfold postUnknown
  repeat' split
  all_goals simp

@[simp] theorem post_frame (o : OutletIx) (v : Word) (s : State) :
    (post o v s).now = s.now ∧ (post o v s).resetHeld = s.resetHeld ∧ (post o v s).line = s.line
      ∧ (post o v s).capture = s.capture ∧ (post o v s).port = s.port ∧ (post o v s).settings = s.settings
      ∧ (post o v s).xm = s.xm ∧ (post o v s).tickDue = s.tickDue ∧ (post o v s).pending = s.pending := by
  unfold post
  repeat' split
  all_goals simp

@[simp] theorem requestPlan_frame (o : OutletIx) (k : PlanKind) (origin : Origin) (s : State) :
    (requestPlan o k origin s).now = s.now ∧ (requestPlan o k origin s).resetHeld = s.resetHeld
      ∧ (requestPlan o k origin s).line = s.line ∧ (requestPlan o k origin s).capture = s.capture
      ∧ (requestPlan o k origin s).port = s.port ∧ (requestPlan o k origin s).settings = s.settings
      ∧ (requestPlan o k origin s).xm = s.xm ∧ (requestPlan o k origin s).tickDue = s.tickDue
      ∧ (requestPlan o k origin s).pending = s.pending := by
  unfold requestPlan
  repeat' split
  all_goals simp

@[simp] theorem policyRequest_frame (o : OutletIx) (s : State) :
    (policyRequest o s).now = s.now ∧ (policyRequest o s).resetHeld = s.resetHeld
      ∧ (policyRequest o s).line = s.line ∧ (policyRequest o s).capture = s.capture
      ∧ (policyRequest o s).port = s.port ∧ (policyRequest o s).settings = s.settings
      ∧ (policyRequest o s).xm = s.xm ∧ (policyRequest o s).tickDue = s.tickDue
      ∧ (policyRequest o s).pending = s.pending := by
  unfold policyRequest
  repeat' split
  all_goals simp

@[simp] theorem forAll_policyRequest_frame (xs : List OutletIx) (s : State) :
    (forAll xs policyRequest s).now = s.now ∧ (forAll xs policyRequest s).resetHeld = s.resetHeld
      ∧ (forAll xs policyRequest s).line = s.line ∧ (forAll xs policyRequest s).capture = s.capture
      ∧ (forAll xs policyRequest s).port = s.port ∧ (forAll xs policyRequest s).settings = s.settings
      ∧ (forAll xs policyRequest s).xm = s.xm ∧ (forAll xs policyRequest s).tickDue = s.tickDue
      ∧ (forAll xs policyRequest s).pending = s.pending :=
  ⟨forAll_keeps State.now (fun _ _ => by simp) xs s,
    forAll_keeps State.resetHeld (fun _ _ => by simp) xs s,
    forAll_keeps State.line (fun _ _ => by simp) xs s,
    forAll_keeps State.capture (fun _ _ => by simp) xs s,
    forAll_keeps State.port (fun _ _ => by simp) xs s,
    forAll_keeps State.settings (fun _ _ => by simp) xs s,
    forAll_keeps State.xm (fun _ _ => by simp) xs s,
    forAll_keeps State.tickDue (fun _ _ => by simp) xs s,
    forAll_keeps State.pending (fun _ _ => by simp) xs s⟩

@[simp] theorem applyPolicy_frame (s : State) :
    (applyPolicy s).now = s.now ∧ (applyPolicy s).resetHeld = s.resetHeld ∧ (applyPolicy s).line = s.line
      ∧ (applyPolicy s).capture = s.capture ∧ (applyPolicy s).port = s.port ∧ (applyPolicy s).settings = s.settings
      ∧ (applyPolicy s).xm = s.xm ∧ (applyPolicy s).tickDue = s.tickDue ∧ (applyPolicy s).pending = s.pending := by
  unfold applyPolicy
  repeat' split
  all_goals simp

@[simp] theorem judgeMember_frame (k : PlanKind) (o : OutletIx) (s : State) :
    (judgeMember k o s).now = s.now ∧ (judgeMember k o s).resetHeld = s.resetHeld
      ∧ (judgeMember k o s).line = s.line ∧ (judgeMember k o s).capture = s.capture
      ∧ (judgeMember k o s).port = s.port ∧ (judgeMember k o s).settings = s.settings
      ∧ (judgeMember k o s).xm = s.xm ∧ (judgeMember k o s).tickDue = s.tickDue
      ∧ (judgeMember k o s).pending = s.pending := by
  unfold judgeMember
  repeat' split
  all_goals simp

@[simp] theorem groupStep_frame (k : PlanKind) (members : BitVec 48) (o : OutletIx) (s : State) :
    (groupStep k members o s).now = s.now ∧ (groupStep k members o s).resetHeld = s.resetHeld
      ∧ (groupStep k members o s).line = s.line ∧ (groupStep k members o s).capture = s.capture
      ∧ (groupStep k members o s).port = s.port ∧ (groupStep k members o s).settings = s.settings
      ∧ (groupStep k members o s).xm = s.xm ∧ (groupStep k members o s).tickDue = s.tickDue
      ∧ (groupStep k members o s).pending = s.pending := by
  unfold groupStep
  repeat' split
  all_goals simp

@[simp] theorem forAll_groupStep_frame (k : PlanKind) (members : BitVec 48) (xs : List OutletIx) (s : State) :
    (forAll xs (groupStep k members) s).now = s.now ∧ (forAll xs (groupStep k members) s).resetHeld = s.resetHeld
      ∧ (forAll xs (groupStep k members) s).line = s.line ∧ (forAll xs (groupStep k members) s).capture = s.capture
      ∧ (forAll xs (groupStep k members) s).port = s.port
      ∧ (forAll xs (groupStep k members) s).settings = s.settings ∧ (forAll xs (groupStep k members) s).xm = s.xm
      ∧ (forAll xs (groupStep k members) s).tickDue = s.tickDue
      ∧ (forAll xs (groupStep k members) s).pending = s.pending :=
  ⟨forAll_keeps State.now (fun _ _ => by simp) xs s,
    forAll_keeps State.resetHeld (fun _ _ => by simp) xs s,
    forAll_keeps State.line (fun _ _ => by simp) xs s,
    forAll_keeps State.capture (fun _ _ => by simp) xs s,
    forAll_keeps State.port (fun _ _ => by simp) xs s,
    forAll_keeps State.settings (fun _ _ => by simp) xs s,
    forAll_keeps State.xm (fun _ _ => by simp) xs s,
    forAll_keeps State.tickDue (fun _ _ => by simp) xs s,
    forAll_keeps State.pending (fun _ _ => by simp) xs s⟩

@[simp] theorem takeGroup_frame (k : PlanKind) (s : State) :
    (takeGroup k s).now = s.now ∧ (takeGroup k s).resetHeld = s.resetHeld ∧ (takeGroup k s).line = s.line
      ∧ (takeGroup k s).capture = s.capture ∧ (takeGroup k s).port = s.port ∧ (takeGroup k s).settings = s.settings
      ∧ (takeGroup k s).xm = s.xm ∧ (takeGroup k s).tickDue = s.tickDue ∧ (takeGroup k s).pending = s.pending := by
  simp [takeGroup]

@[simp] theorem refuseGroupIdle_frame (kind : Word) (code : ResultCode) (s : State) :
    (refuseGroupIdle kind code s).now = s.now ∧ (refuseGroupIdle kind code s).resetHeld = s.resetHeld
      ∧ (refuseGroupIdle kind code s).line = s.line ∧ (refuseGroupIdle kind code s).meter = s.meter
      ∧ (refuseGroupIdle kind code s).records = s.records ∧ (refuseGroupIdle kind code s).relay = s.relay
      ∧ (refuseGroupIdle kind code s).sched = s.sched ∧ (refuseGroupIdle kind code s).guard = s.guard
      ∧ (refuseGroupIdle kind code s).watch = s.watch ∧ (refuseGroupIdle kind code s).capture = s.capture
      ∧ (refuseGroupIdle kind code s).port = s.port ∧ (refuseGroupIdle kind code s).settings = s.settings
      ∧ (refuseGroupIdle kind code s).xm = s.xm ∧ (refuseGroupIdle kind code s).tickDue = s.tickDue
      ∧ (refuseGroupIdle kind code s).pending = s.pending := by
  simp [refuseGroupIdle]

@[simp] theorem refuseGroupActive_frame (code : ResultCode) (s : State) :
    (refuseGroupActive code s).now = s.now ∧ (refuseGroupActive code s).resetHeld = s.resetHeld
      ∧ (refuseGroupActive code s).line = s.line ∧ (refuseGroupActive code s).meter = s.meter
      ∧ (refuseGroupActive code s).records = s.records ∧ (refuseGroupActive code s).relay = s.relay
      ∧ (refuseGroupActive code s).sched = s.sched ∧ (refuseGroupActive code s).guard = s.guard
      ∧ (refuseGroupActive code s).watch = s.watch ∧ (refuseGroupActive code s).capture = s.capture
      ∧ (refuseGroupActive code s).port = s.port ∧ (refuseGroupActive code s).settings = s.settings
      ∧ (refuseGroupActive code s).xm = s.xm ∧ (refuseGroupActive code s).tickDue = s.tickDue
      ∧ (refuseGroupActive code s).pending = s.pending := by
  simp [refuseGroupActive]

@[simp] theorem cancelMember_frame (o : OutletIx) (s : State) :
    (cancelMember o s).now = s.now ∧ (cancelMember o s).resetHeld = s.resetHeld ∧ (cancelMember o s).line = s.line
      ∧ (cancelMember o s).capture = s.capture ∧ (cancelMember o s).port = s.port
      ∧ (cancelMember o s).settings = s.settings ∧ (cancelMember o s).xm = s.xm
      ∧ (cancelMember o s).tickDue = s.tickDue ∧ (cancelMember o s).pending = s.pending := by
  unfold cancelMember
  repeat' split
  all_goals simp

@[simp] theorem forAll_cancelMember_frame (xs : List OutletIx) (s : State) :
    (forAll xs cancelMember s).now = s.now ∧ (forAll xs cancelMember s).resetHeld = s.resetHeld
      ∧ (forAll xs cancelMember s).line = s.line ∧ (forAll xs cancelMember s).capture = s.capture
      ∧ (forAll xs cancelMember s).port = s.port ∧ (forAll xs cancelMember s).settings = s.settings
      ∧ (forAll xs cancelMember s).xm = s.xm ∧ (forAll xs cancelMember s).tickDue = s.tickDue
      ∧ (forAll xs cancelMember s).pending = s.pending :=
  ⟨forAll_keeps State.now (fun _ _ => by simp) xs s,
    forAll_keeps State.resetHeld (fun _ _ => by simp) xs s,
    forAll_keeps State.line (fun _ _ => by simp) xs s,
    forAll_keeps State.capture (fun _ _ => by simp) xs s,
    forAll_keeps State.port (fun _ _ => by simp) xs s,
    forAll_keeps State.settings (fun _ _ => by simp) xs s,
    forAll_keeps State.xm (fun _ _ => by simp) xs s,
    forAll_keeps State.tickDue (fun _ _ => by simp) xs s,
    forAll_keeps State.pending (fun _ _ => by simp) xs s⟩

@[simp] theorem groupKind_frame (k : PlanKind) (s : State) :
    (groupKind k s).now = s.now ∧ (groupKind k s).resetHeld = s.resetHeld ∧ (groupKind k s).line = s.line
      ∧ (groupKind k s).capture = s.capture ∧ (groupKind k s).port = s.port ∧ (groupKind k s).settings = s.settings
      ∧ (groupKind k s).xm = s.xm ∧ (groupKind k s).tickDue = s.tickDue ∧ (groupKind k s).pending = s.pending := by
  unfold groupKind
  repeat' split
  all_goals simp

@[simp] theorem groupCancelPosting_frame (s : State) :
    (groupCancelPosting s).now = s.now ∧ (groupCancelPosting s).resetHeld = s.resetHeld
      ∧ (groupCancelPosting s).line = s.line ∧ (groupCancelPosting s).capture = s.capture
      ∧ (groupCancelPosting s).port = s.port ∧ (groupCancelPosting s).settings = s.settings
      ∧ (groupCancelPosting s).xm = s.xm ∧ (groupCancelPosting s).tickDue = s.tickDue
      ∧ (groupCancelPosting s).pending = s.pending := by
  unfold groupCancelPosting
  repeat' split
  all_goals simp

@[simp] theorem groupUnknown_frame (v : Word) (s : State) :
    (groupUnknown v s).now = s.now ∧ (groupUnknown v s).resetHeld = s.resetHeld ∧ (groupUnknown v s).line = s.line
      ∧ (groupUnknown v s).meter = s.meter ∧ (groupUnknown v s).records = s.records
      ∧ (groupUnknown v s).relay = s.relay ∧ (groupUnknown v s).sched = s.sched
      ∧ (groupUnknown v s).guard = s.guard ∧ (groupUnknown v s).watch = s.watch
      ∧ (groupUnknown v s).capture = s.capture ∧ (groupUnknown v s).port = s.port
      ∧ (groupUnknown v s).settings = s.settings ∧ (groupUnknown v s).xm = s.xm
      ∧ (groupUnknown v s).tickDue = s.tickDue ∧ (groupUnknown v s).pending = s.pending := by
  unfold groupUnknown
  repeat' split
  all_goals simp

@[simp] theorem postGroup_frame (v : Word) (s : State) :
    (postGroup v s).now = s.now ∧ (postGroup v s).resetHeld = s.resetHeld ∧ (postGroup v s).line = s.line
      ∧ (postGroup v s).capture = s.capture ∧ (postGroup v s).port = s.port ∧ (postGroup v s).settings = s.settings
      ∧ (postGroup v s).xm = s.xm ∧ (postGroup v s).tickDue = s.tickDue ∧ (postGroup v s).pending = s.pending := by
  unfold postGroup
  repeat' split
  all_goals simp

@[simp] theorem warmEndPlan_frame (o : OutletIx) (s : State) :
    (warmEndPlan o s).now = s.now ∧ (warmEndPlan o s).resetHeld = s.resetHeld ∧ (warmEndPlan o s).line = s.line
      ∧ (warmEndPlan o s).meter = s.meter ∧ (warmEndPlan o s).records = s.records
      ∧ (warmEndPlan o s).relay = s.relay ∧ (warmEndPlan o s).sched = s.sched
      ∧ (warmEndPlan o s).capture = s.capture ∧ (warmEndPlan o s).port = s.port
      ∧ (warmEndPlan o s).settings = s.settings ∧ (warmEndPlan o s).xm = s.xm
      ∧ (warmEndPlan o s).tickDue = s.tickDue ∧ (warmEndPlan o s).pending = s.pending := by
  unfold warmEndPlan
  repeat' split
  all_goals simp

@[simp] theorem forAll_warmEndPlan_frame (xs : List OutletIx) (s : State) :
    (forAll xs warmEndPlan s).now = s.now ∧ (forAll xs warmEndPlan s).resetHeld = s.resetHeld
      ∧ (forAll xs warmEndPlan s).line = s.line ∧ (forAll xs warmEndPlan s).meter = s.meter
      ∧ (forAll xs warmEndPlan s).records = s.records ∧ (forAll xs warmEndPlan s).relay = s.relay
      ∧ (forAll xs warmEndPlan s).sched = s.sched ∧ (forAll xs warmEndPlan s).capture = s.capture
      ∧ (forAll xs warmEndPlan s).port = s.port ∧ (forAll xs warmEndPlan s).settings = s.settings
      ∧ (forAll xs warmEndPlan s).xm = s.xm ∧ (forAll xs warmEndPlan s).tickDue = s.tickDue
      ∧ (forAll xs warmEndPlan s).pending = s.pending :=
  ⟨forAll_keeps State.now (fun _ _ => by simp) xs s,
    forAll_keeps State.resetHeld (fun _ _ => by simp) xs s,
    forAll_keeps State.line (fun _ _ => by simp) xs s,
    forAll_keeps State.meter (fun _ _ => by simp) xs s,
    forAll_keeps State.records (fun _ _ => by simp) xs s,
    forAll_keeps State.relay (fun _ _ => by simp) xs s,
    forAll_keeps State.sched (fun _ _ => by simp) xs s,
    forAll_keeps State.capture (fun _ _ => by simp) xs s,
    forAll_keeps State.port (fun _ _ => by simp) xs s,
    forAll_keeps State.settings (fun _ _ => by simp) xs s,
    forAll_keeps State.xm (fun _ _ => by simp) xs s,
    forAll_keeps State.tickDue (fun _ _ => by simp) xs s,
    forAll_keeps State.pending (fun _ _ => by simp) xs s⟩

@[simp] theorem dropMember_frame (o : OutletIx) (s : State) :
    (dropMember o s).now = s.now ∧ (dropMember o s).resetHeld = s.resetHeld ∧ (dropMember o s).line = s.line
      ∧ (dropMember o s).meter = s.meter ∧ (dropMember o s).records = s.records ∧ (dropMember o s).relay = s.relay
      ∧ (dropMember o s).sched = s.sched ∧ (dropMember o s).guard = s.guard ∧ (dropMember o s).watch = s.watch
      ∧ (dropMember o s).capture = s.capture ∧ (dropMember o s).notices = s.notices
      ∧ (dropMember o s).port = s.port ∧ (dropMember o s).settings = s.settings ∧ (dropMember o s).xm = s.xm
      ∧ (dropMember o s).tickDue = s.tickDue ∧ (dropMember o s).pending = s.pending := by
  unfold dropMember
  repeat' split
  all_goals simp

@[simp] theorem forAll_dropMember_frame (xs : List OutletIx) (s : State) :
    (forAll xs dropMember s).now = s.now ∧ (forAll xs dropMember s).resetHeld = s.resetHeld
      ∧ (forAll xs dropMember s).line = s.line ∧ (forAll xs dropMember s).meter = s.meter
      ∧ (forAll xs dropMember s).records = s.records ∧ (forAll xs dropMember s).relay = s.relay
      ∧ (forAll xs dropMember s).sched = s.sched ∧ (forAll xs dropMember s).guard = s.guard
      ∧ (forAll xs dropMember s).watch = s.watch ∧ (forAll xs dropMember s).capture = s.capture
      ∧ (forAll xs dropMember s).notices = s.notices ∧ (forAll xs dropMember s).port = s.port
      ∧ (forAll xs dropMember s).settings = s.settings ∧ (forAll xs dropMember s).xm = s.xm
      ∧ (forAll xs dropMember s).tickDue = s.tickDue ∧ (forAll xs dropMember s).pending = s.pending :=
  ⟨forAll_keeps State.now (fun _ _ => by simp) xs s,
    forAll_keeps State.resetHeld (fun _ _ => by simp) xs s,
    forAll_keeps State.line (fun _ _ => by simp) xs s,
    forAll_keeps State.meter (fun _ _ => by simp) xs s,
    forAll_keeps State.records (fun _ _ => by simp) xs s,
    forAll_keeps State.relay (fun _ _ => by simp) xs s,
    forAll_keeps State.sched (fun _ _ => by simp) xs s,
    forAll_keeps State.guard (fun _ _ => by simp) xs s,
    forAll_keeps State.watch (fun _ _ => by simp) xs s,
    forAll_keeps State.capture (fun _ _ => by simp) xs s,
    forAll_keeps State.notices (fun _ _ => by simp) xs s,
    forAll_keeps State.port (fun _ _ => by simp) xs s,
    forAll_keeps State.settings (fun _ _ => by simp) xs s,
    forAll_keeps State.xm (fun _ _ => by simp) xs s,
    forAll_keeps State.tickDue (fun _ _ => by simp) xs s,
    forAll_keeps State.pending (fun _ _ => by simp) xs s⟩

@[simp] theorem warmGroup_frame (s : State) :
    (warmGroup s).now = s.now ∧ (warmGroup s).resetHeld = s.resetHeld ∧ (warmGroup s).line = s.line
      ∧ (warmGroup s).meter = s.meter ∧ (warmGroup s).records = s.records ∧ (warmGroup s).relay = s.relay
      ∧ (warmGroup s).sched = s.sched ∧ (warmGroup s).guard = s.guard ∧ (warmGroup s).watch = s.watch
      ∧ (warmGroup s).capture = s.capture ∧ (warmGroup s).port = s.port ∧ (warmGroup s).settings = s.settings
      ∧ (warmGroup s).xm = s.xm ∧ (warmGroup s).tickDue = s.tickDue ∧ (warmGroup s).pending = s.pending := by
  unfold warmGroup
  repeat' split
  all_goals simp

end Sys2Proof.Machine
end

