-- ==== Sys2Proof/Laws/FrameBlocks.lean ====
section
/-! SUPPORT. Frames of the shared operations of the Capture Channel, the Relay Controller, the Branch Guard and
the declaration of a stall. -/

namespace Sys2Proof.Machine
@[simp] theorem State.updOp_frame (s : State) (o : OutletIx) (f : Op → Op) :
    (State.updOp s o f).now = s.now ∧ (State.updOp s o f).resetHeld = s.resetHeld
      ∧ (State.updOp s o f).line = s.line ∧ (State.updOp s o f).meter = s.meter
      ∧ (State.updOp s o f).records = s.records ∧ (State.updOp s o f).sched = s.sched
      ∧ (State.updOp s o f).plans = s.plans ∧ (State.updOp s o f).guard = s.guard
      ∧ (State.updOp s o f).watch = s.watch ∧ (State.updOp s o f).capture = s.capture
      ∧ (State.updOp s o f).notices = s.notices ∧ (State.updOp s o f).port = s.port
      ∧ (State.updOp s o f).settings = s.settings ∧ (State.updOp s o f).xm = s.xm
      ∧ (State.updOp s o f).tickDue = s.tickDue ∧ (State.updOp s o f).pending = s.pending := by
  simp [State.updOp]


/-! ### CaptureOps -/

@[simp] theorem endCapture_frame (st : CaptureState) (r : EndReason) (s : State) :
    (endCapture st r s).now = s.now ∧ (endCapture st r s).resetHeld = s.resetHeld
      ∧ (endCapture st r s).line = s.line ∧ (endCapture st r s).meter = s.meter
      ∧ (endCapture st r s).records = s.records ∧ (endCapture st r s).relay = s.relay
      ∧ (endCapture st r s).sched = s.sched ∧ (endCapture st r s).plans = s.plans
      ∧ (endCapture st r s).guard = s.guard ∧ (endCapture st r s).watch = s.watch
      ∧ (endCapture st r s).port = s.port ∧ (endCapture st r s).settings = s.settings
      ∧ (endCapture st r s).xm = s.xm ∧ (endCapture st r s).tickDue = s.tickDue
      ∧ (endCapture st r s).pending = s.pending := by
  simp [endCapture]

@[simp] theorem refuseCapture_frame (code : ResultCode) (s : State) :
    (refuseCapture code s).now = s.now ∧ (refuseCapture code s).resetHeld = s.resetHeld
      ∧ (refuseCapture code s).line = s.line ∧ (refuseCapture code s).meter = s.meter
      ∧ (refuseCapture code s).records = s.records ∧ (refuseCapture code s).relay = s.relay
      ∧ (refuseCapture code s).sched = s.sched ∧ (refuseCapture code s).plans = s.plans
      ∧ (refuseCapture code s).guard = s.guard ∧ (refuseCapture code s).watch = s.watch
      ∧ (refuseCapture code s).port = s.port ∧ (refuseCapture code s).settings = s.settings
      ∧ (refuseCapture code s).xm = s.xm ∧ (refuseCapture code s).tickDue = s.tickDue
      ∧ (refuseCapture code s).pending = s.pending := by
  simp [refuseCapture]

@[simp] theorem armCapture_frame (s : State) :
    (armCapture s).now = s.now ∧ (armCapture s).resetHeld = s.resetHeld ∧ (armCapture s).line = s.line
      ∧ (armCapture s).meter = s.meter ∧ (armCapture s).records = s.records ∧ (armCapture s).relay = s.relay
      ∧ (armCapture s).sched = s.sched ∧ (armCapture s).plans = s.plans ∧ (armCapture s).guard = s.guard
      ∧ (armCapture s).watch = s.watch ∧ (armCapture s).notices = s.notices ∧ (armCapture s).port = s.port
      ∧ (armCapture s).settings = s.settings ∧ (armCapture s).xm = s.xm ∧ (armCapture s).tickDue = s.tickDue
      ∧ (armCapture s).pending = s.pending := by
  simp [armCapture]

@[simp] theorem captureStart_frame (s : State) :
    (captureStart s).now = s.now ∧ (captureStart s).resetHeld = s.resetHeld ∧ (captureStart s).line = s.line
      ∧ (captureStart s).meter = s.meter ∧ (captureStart s).records = s.records ∧ (captureStart s).relay = s.relay
      ∧ (captureStart s).sched = s.sched ∧ (captureStart s).plans = s.plans ∧ (captureStart s).guard = s.guard
      ∧ (captureStart s).watch = s.watch ∧ (captureStart s).port = s.port ∧ (captureStart s).settings = s.settings
      ∧ (captureStart s).xm = s.xm ∧ (captureStart s).tickDue = s.tickDue ∧ (captureStart s).pending = s.pending := by
  unfold captureStart
  repeat' split
  all_goals simp

@[simp] theorem abortRunning_frame (r : EndReason) (s : State) :
    (abortRunning r s).now = s.now ∧ (abortRunning r s).resetHeld = s.resetHeld ∧ (abortRunning r s).line = s.line
      ∧ (abortRunning r s).meter = s.meter ∧ (abortRunning r s).records = s.records
      ∧ (abortRunning r s).relay = s.relay ∧ (abortRunning r s).sched = s.sched
      ∧ (abortRunning r s).plans = s.plans ∧ (abortRunning r s).guard = s.guard
      ∧ (abortRunning r s).watch = s.watch ∧ (abortRunning r s).port = s.port
      ∧ (abortRunning r s).settings = s.settings ∧ (abortRunning r s).xm = s.xm
      ∧ (abortRunning r s).tickDue = s.tickDue ∧ (abortRunning r s).pending = s.pending := by
  unfold abortRunning
  repeat' split
  all_goals simp

@[simp] theorem stopCapture_frame (r : EndReason) (s : State) :
    (stopCapture r s).now = s.now ∧ (stopCapture r s).resetHeld = s.resetHeld ∧ (stopCapture r s).line = s.line
      ∧ (stopCapture r s).meter = s.meter ∧ (stopCapture r s).records = s.records
      ∧ (stopCapture r s).relay = s.relay ∧ (stopCapture r s).sched = s.sched ∧ (stopCapture r s).plans = s.plans
      ∧ (stopCapture r s).guard = s.guard ∧ (stopCapture r s).watch = s.watch ∧ (stopCapture r s).port = s.port
      ∧ (stopCapture r s).settings = s.settings ∧ (stopCapture r s).xm = s.xm
      ∧ (stopCapture r s).tickDue = s.tickDue ∧ (stopCapture r s).pending = s.pending := by
  unfold stopCapture
  repeat' split
  all_goals simp

@[simp] theorem captureCommand_frame (v : Word) (s : State) :
    (captureCommand v s).now = s.now ∧ (captureCommand v s).resetHeld = s.resetHeld
      ∧ (captureCommand v s).line = s.line ∧ (captureCommand v s).meter = s.meter
      ∧ (captureCommand v s).records = s.records ∧ (captureCommand v s).relay = s.relay
      ∧ (captureCommand v s).sched = s.sched ∧ (captureCommand v s).plans = s.plans
      ∧ (captureCommand v s).guard = s.guard ∧ (captureCommand v s).watch = s.watch
      ∧ (captureCommand v s).port = s.port ∧ (captureCommand v s).settings = s.settings
      ∧ (captureCommand v s).xm = s.xm ∧ (captureCommand v s).tickDue = s.tickDue
      ∧ (captureCommand v s).pending = s.pending := by
  unfold captureCommand
  repeat' split
  all_goals simp

@[simp] theorem runCapture_frame (k : CycleKind) (s : State) :
    (runCapture k s).now = s.now ∧ (runCapture k s).resetHeld = s.resetHeld ∧ (runCapture k s).line = s.line
      ∧ (runCapture k s).meter = s.meter ∧ (runCapture k s).records = s.records ∧ (runCapture k s).relay = s.relay
      ∧ (runCapture k s).sched = s.sched ∧ (runCapture k s).plans = s.plans ∧ (runCapture k s).guard = s.guard
      ∧ (runCapture k s).watch = s.watch ∧ (runCapture k s).notices = s.notices ∧ (runCapture k s).port = s.port
      ∧ (runCapture k s).settings = s.settings ∧ (runCapture k s).xm = s.xm ∧ (runCapture k s).tickDue = s.tickDue
      ∧ (runCapture k s).pending = s.pending := by
  simp [runCapture]

@[simp] theorem captureCycle_frame (k : CycleKind) (s : State) :
    (captureCycle k s).now = s.now ∧ (captureCycle k s).resetHeld = s.resetHeld ∧ (captureCycle k s).line = s.line
      ∧ (captureCycle k s).meter = s.meter ∧ (captureCycle k s).records = s.records
      ∧ (captureCycle k s).relay = s.relay ∧ (captureCycle k s).sched = s.sched
      ∧ (captureCycle k s).plans = s.plans ∧ (captureCycle k s).guard = s.guard
      ∧ (captureCycle k s).watch = s.watch ∧ (captureCycle k s).port = s.port
      ∧ (captureCycle k s).settings = s.settings ∧ (captureCycle k s).xm = s.xm
      ∧ (captureCycle k s).tickDue = s.tickDue ∧ (captureCycle k s).pending = s.pending := by
  unfold captureCycle
  repeat' split
  all_goals simp

@[simp] theorem beginCapturedCycle_frame (s : State) :
    (beginCapturedCycle s).now = s.now ∧ (beginCapturedCycle s).resetHeld = s.resetHeld
      ∧ (beginCapturedCycle s).line = s.line ∧ (beginCapturedCycle s).meter = s.meter
      ∧ (beginCapturedCycle s).records = s.records ∧ (beginCapturedCycle s).relay = s.relay
      ∧ (beginCapturedCycle s).sched = s.sched ∧ (beginCapturedCycle s).plans = s.plans
      ∧ (beginCapturedCycle s).guard = s.guard ∧ (beginCapturedCycle s).watch = s.watch
      ∧ (beginCapturedCycle s).notices = s.notices ∧ (beginCapturedCycle s).port = s.port
      ∧ (beginCapturedCycle s).settings = s.settings ∧ (beginCapturedCycle s).xm = s.xm
      ∧ (beginCapturedCycle s).tickDue = s.tickDue ∧ (beginCapturedCycle s).pending = s.pending := by
  unfold beginCapturedCycle
  repeat' split
  all_goals simp

@[simp] theorem markSlotTaken_frame (s : State) :
    (markSlotTaken s).now = s.now ∧ (markSlotTaken s).resetHeld = s.resetHeld ∧ (markSlotTaken s).meter = s.meter
      ∧ (markSlotTaken s).records = s.records ∧ (markSlotTaken s).relay = s.relay
      ∧ (markSlotTaken s).sched = s.sched ∧ (markSlotTaken s).plans = s.plans ∧ (markSlotTaken s).guard = s.guard
      ∧ (markSlotTaken s).watch = s.watch ∧ (markSlotTaken s).notices = s.notices ∧ (markSlotTaken s).port = s.port
      ∧ (markSlotTaken s).settings = s.settings ∧ (markSlotTaken s).xm = s.xm
      ∧ (markSlotTaken s).tickDue = s.tickDue ∧ (markSlotTaken s).pending = s.pending := by
  simp [markSlotTaken]

@[simp] theorem captureTrigger_frame (o : OutletIx) (atSlot : Bool) (s : State) :
    (captureTrigger o atSlot s).now = s.now ∧ (captureTrigger o atSlot s).resetHeld = s.resetHeld
      ∧ (captureTrigger o atSlot s).meter = s.meter ∧ (captureTrigger o atSlot s).records = s.records
      ∧ (captureTrigger o atSlot s).relay = s.relay ∧ (captureTrigger o atSlot s).sched = s.sched
      ∧ (captureTrigger o atSlot s).plans = s.plans ∧ (captureTrigger o atSlot s).guard = s.guard
      ∧ (captureTrigger o atSlot s).watch = s.watch ∧ (captureTrigger o atSlot s).notices = s.notices
      ∧ (captureTrigger o atSlot s).port = s.port ∧ (captureTrigger o atSlot s).settings = s.settings
      ∧ (captureTrigger o atSlot s).xm = s.xm ∧ (captureTrigger o atSlot s).tickDue = s.tickDue
      ∧ (captureTrigger o atSlot s).pending = s.pending := by
  unfold captureTrigger
  dsimp only
  repeat' split
  all_goals simp

@[simp] theorem settleAbort_frame (s : State) :
    (settleAbort s).now = s.now ∧ (settleAbort s).resetHeld = s.resetHeld ∧ (settleAbort s).line = s.line
      ∧ (settleAbort s).meter = s.meter ∧ (settleAbort s).records = s.records ∧ (settleAbort s).relay = s.relay
      ∧ (settleAbort s).sched = s.sched ∧ (settleAbort s).plans = s.plans ∧ (settleAbort s).guard = s.guard
      ∧ (settleAbort s).watch = s.watch ∧ (settleAbort s).port = s.port ∧ (settleAbort s).settings = s.settings
      ∧ (settleAbort s).xm = s.xm ∧ (settleAbort s).tickDue = s.tickDue ∧ (settleAbort s).pending = s.pending := by
  unfold settleAbort
  repeat' split
  all_goals simp

@[simp] theorem captureComplete_frame (v : SampleSet) (s : State) :
    (captureComplete v s).now = s.now ∧ (captureComplete v s).resetHeld = s.resetHeld
      ∧ (captureComplete v s).line = s.line ∧ (captureComplete v s).meter = s.meter
      ∧ (captureComplete v s).records = s.records ∧ (captureComplete v s).relay = s.relay
      ∧ (captureComplete v s).sched = s.sched ∧ (captureComplete v s).plans = s.plans
      ∧ (captureComplete v s).guard = s.guard ∧ (captureComplete v s).watch = s.watch
      ∧ (captureComplete v s).port = s.port ∧ (captureComplete v s).settings = s.settings
      ∧ (captureComplete v s).tickDue = s.tickDue ∧ (captureComplete v s).pending = s.pending := by
  unfold captureComplete
  dsimp only
  repeat' split
  all_goals simp

@[simp] theorem captureMissed_frame (s : State) :
    (captureMissed s).now = s.now ∧ (captureMissed s).resetHeld = s.resetHeld ∧ (captureMissed s).line = s.line
      ∧ (captureMissed s).meter = s.meter ∧ (captureMissed s).records = s.records
      ∧ (captureMissed s).relay = s.relay ∧ (captureMissed s).sched = s.sched ∧ (captureMissed s).plans = s.plans
      ∧ (captureMissed s).guard = s.guard ∧ (captureMissed s).watch = s.watch ∧ (captureMissed s).port = s.port
      ∧ (captureMissed s).settings = s.settings ∧ (captureMissed s).xm = s.xm
      ∧ (captureMissed s).tickDue = s.tickDue ∧ (captureMissed s).pending = s.pending := by
  unfold captureMissed
  repeat' split
  all_goals simp


/-! ### RelayOps -/

@[simp] theorem senseAll_frame (sense : BitVec 48) (s : State) :
    (senseAll sense s).now = s.now ∧ (senseAll sense s).resetHeld = s.resetHeld ∧ (senseAll sense s).line = s.line
      ∧ (senseAll sense s).meter = s.meter ∧ (senseAll sense s).records = s.records
      ∧ (senseAll sense s).sched = s.sched ∧ (senseAll sense s).plans = s.plans
      ∧ (senseAll sense s).guard = s.guard ∧ (senseAll sense s).watch = s.watch
      ∧ (senseAll sense s).capture = s.capture ∧ (senseAll sense s).notices = s.notices
      ∧ (senseAll sense s).port = s.port ∧ (senseAll sense s).settings = s.settings ∧ (senseAll sense s).xm = s.xm
      ∧ (senseAll sense s).tickDue = s.tickDue ∧ (senseAll sense s).pending = s.pending := by
  simp [senseAll]

@[simp] theorem resolveOne_frame (o : OutletIx) (s : State) :
    (resolveOne o s).now = s.now ∧ (resolveOne o s).resetHeld = s.resetHeld ∧ (resolveOne o s).line = s.line
      ∧ (resolveOne o s).capture = s.capture ∧ (resolveOne o s).port = s.port
      ∧ (resolveOne o s).settings = s.settings ∧ (resolveOne o s).xm = s.xm ∧ (resolveOne o s).tickDue = s.tickDue
      ∧ (resolveOne o s).pending = s.pending := by
  unfold resolveOne
  repeat' split
  all_goals simp

@[simp] theorem forAll_resolveOne_frame (xs : List OutletIx) (s : State) :
    (forAll xs resolveOne s).now = s.now ∧ (forAll xs resolveOne s).resetHeld = s.resetHeld
      ∧ (forAll xs resolveOne s).line = s.line ∧ (forAll xs resolveOne s).capture = s.capture
      ∧ (forAll xs resolveOne s).port = s.port ∧ (forAll xs resolveOne s).settings = s.settings
      ∧ (forAll xs resolveOne s).xm = s.xm ∧ (forAll xs resolveOne s).tickDue = s.tickDue
      ∧ (forAll xs resolveOne s).pending = s.pending :=
  ⟨forAll_keeps State.now (fun _ _ => by simp) xs s,
    forAll_keeps State.resetHeld (fun _ _ => by simp) xs s,
    forAll_keeps State.line (fun _ _ => by simp) xs s,
    forAll_keeps State.capture (fun _ _ => by simp) xs s,
    forAll_keeps State.port (fun _ _ => by simp) xs s,
    forAll_keeps State.settings (fun _ _ => by simp) xs s,
    forAll_keeps State.xm (fun _ _ => by simp) xs s,
    forAll_keeps State.tickDue (fun _ _ => by simp) xs s,
    forAll_keeps State.pending (fun _ _ => by simp) xs s⟩

@[simp] theorem resolveAll_frame (os : List OutletIx) (s : State) :
    (resolveAll os s).now = s.now ∧ (resolveAll os s).resetHeld = s.resetHeld ∧ (resolveAll os s).line = s.line
      ∧ (resolveAll os s).capture = s.capture ∧ (resolveAll os s).port = s.port
      ∧ (resolveAll os s).settings = s.settings ∧ (resolveAll os s).xm = s.xm
      ∧ (resolveAll os s).tickDue = s.tickDue ∧ (resolveAll os s).pending = s.pending := by
  simp [resolveAll]

@[simp] theorem raiseFault_frame (o : OutletIx) (r : OpResult) (s : State) :
    (raiseFault o r s).now = s.now ∧ (raiseFault o r s).resetHeld = s.resetHeld ∧ (raiseFault o r s).line = s.line
      ∧ (raiseFault o r s).meter = s.meter ∧ (raiseFault o r s).records = s.records
      ∧ (raiseFault o r s).relay = s.relay ∧ (raiseFault o r s).sched = s.sched
      ∧ (raiseFault o r s).plans = s.plans ∧ (raiseFault o r s).guard = s.guard
      ∧ (raiseFault o r s).watch = s.watch ∧ (raiseFault o r s).capture = s.capture
      ∧ (raiseFault o r s).port = s.port ∧ (raiseFault o r s).settings = s.settings ∧ (raiseFault o r s).xm = s.xm
      ∧ (raiseFault o r s).tickDue = s.tickDue ∧ (raiseFault o r s).pending = s.pending := by
  unfold raiseFault
  repeat' split
  all_goals simp

@[simp] theorem endOperation_frame (o : OutletIx) (d : Direction) (r : OpResult) (pos : Position) (s : State) :
    (endOperation o d r pos s).now = s.now ∧ (endOperation o d r pos s).resetHeld = s.resetHeld
      ∧ (endOperation o d r pos s).line = s.line ∧ (endOperation o d r pos s).capture = s.capture
      ∧ (endOperation o d r pos s).port = s.port ∧ (endOperation o d r pos s).settings = s.settings
      ∧ (endOperation o d r pos s).xm = s.xm ∧ (endOperation o d r pos s).tickDue = s.tickDue
      ∧ (endOperation o d r pos s).pending = s.pending := by
  simp [endOperation]

@[simp] theorem endUnverified_frame (o : OutletIx) (d : Direction) (s : State) :
    (endUnverified o d s).now = s.now ∧ (endUnverified o d s).resetHeld = s.resetHeld
      ∧ (endUnverified o d s).line = s.line ∧ (endUnverified o d s).capture = s.capture
      ∧ (endUnverified o d s).port = s.port ∧ (endUnverified o d s).settings = s.settings
      ∧ (endUnverified o d s).xm = s.xm ∧ (endUnverified o d s).tickDue = s.tickDue
      ∧ (endUnverified o d s).pending = s.pending := by
  simp [endUnverified]

@[simp] theorem withdraw_frame (o : OutletIx) (p : Op) (s : State) :
    (withdraw o p s).now = s.now ∧ (withdraw o p s).resetHeld = s.resetHeld ∧ (withdraw o p s).line = s.line
      ∧ (withdraw o p s).capture = s.capture ∧ (withdraw o p s).port = s.port
      ∧ (withdraw o p s).settings = s.settings ∧ (withdraw o p s).xm = s.xm ∧ (withdraw o p s).tickDue = s.tickDue
      ∧ (withdraw o p s).pending = s.pending := by
  unfold withdraw
  repeat' split
  all_goals simp

@[simp] theorem withdrawIfBarred_frame (o : OutletIx) (s : State) :
    (withdrawIfBarred o s).now = s.now ∧ (withdrawIfBarred o s).resetHeld = s.resetHeld
      ∧ (withdrawIfBarred o s).line = s.line ∧ (withdrawIfBarred o s).capture = s.capture
      ∧ (withdrawIfBarred o s).port = s.port ∧ (withdrawIfBarred o s).settings = s.settings
      ∧ (withdrawIfBarred o s).xm = s.xm ∧ (withdrawIfBarred o s).tickDue = s.tickDue
      ∧ (withdrawIfBarred o s).pending = s.pending := by
  unfold withdrawIfBarred
  repeat' split
  all_goals simp

@[simp] theorem forAll_withdrawIfBarred_frame (xs : List OutletIx) (s : State) :
    (forAll xs withdrawIfBarred s).now = s.now ∧ (forAll xs withdrawIfBarred s).resetHeld = s.resetHeld
      ∧ (forAll xs withdrawIfBarred s).line = s.line ∧ (forAll xs withdrawIfBarred s).capture = s.capture
      ∧ (forAll xs withdrawIfBarred s).port = s.port ∧ (forAll xs withdrawIfBarred s).settings = s.settings
      ∧ (forAll xs withdrawIfBarred s).xm = s.xm ∧ (forAll xs withdrawIfBarred s).tickDue = s.tickDue
      ∧ (forAll xs withdrawIfBarred s).pending = s.pending :=
  ⟨forAll_keeps State.now (fun _ _ => by simp) xs s,
    forAll_keeps State.resetHeld (fun _ _ => by simp) xs s,
    forAll_keeps State.line (fun _ _ => by simp) xs s,
    forAll_keeps State.capture (fun _ _ => by simp) xs s,
    forAll_keeps State.port (fun _ _ => by simp) xs s,
    forAll_keeps State.settings (fun _ _ => by simp) xs s,
    forAll_keeps State.xm (fun _ _ => by simp) xs s,
    forAll_keeps State.tickDue (fun _ _ => by simp) xs s,
    forAll_keeps State.pending (fun _ _ => by simp) xs s⟩

@[simp] theorem reAimDeferred_frame (s : State) :
    (reAimDeferred s).now = s.now ∧ (reAimDeferred s).resetHeld = s.resetHeld ∧ (reAimDeferred s).line = s.line
      ∧ (reAimDeferred s).meter = s.meter ∧ (reAimDeferred s).records = s.records
      ∧ (reAimDeferred s).sched = s.sched ∧ (reAimDeferred s).plans = s.plans ∧ (reAimDeferred s).guard = s.guard
      ∧ (reAimDeferred s).watch = s.watch ∧ (reAimDeferred s).capture = s.capture
      ∧ (reAimDeferred s).notices = s.notices ∧ (reAimDeferred s).port = s.port
      ∧ (reAimDeferred s).settings = s.settings ∧ (reAimDeferred s).xm = s.xm
      ∧ (reAimDeferred s).tickDue = s.tickDue ∧ (reAimDeferred s).pending = s.pending := by
  unfold reAimDeferred
  repeat' split
  all_goals simp

@[simp] theorem firePulse_frame (o : OutletIx) (p : Op) (s : State) :
    (firePulse o p s).now = s.now ∧ (firePulse o p s).resetHeld = s.resetHeld ∧ (firePulse o p s).meter = s.meter
      ∧ (firePulse o p s).records = s.records ∧ (firePulse o p s).plans = s.plans
      ∧ (firePulse o p s).guard = s.guard ∧ (firePulse o p s).watch = s.watch
      ∧ (firePulse o p s).notices = s.notices ∧ (firePulse o p s).port = s.port
      ∧ (firePulse o p s).settings = s.settings ∧ (firePulse o p s).xm = s.xm
      ∧ (firePulse o p s).tickDue = s.tickDue ∧ (firePulse o p s).pending = s.pending := by
  unfold firePulse
  dsimp only
  repeat' split
  all_goals simp

@[simp] theorem deferPulse_frame (o : OutletIx) (s : State) :
    (deferPulse o s).now = s.now ∧ (deferPulse o s).resetHeld = s.resetHeld ∧ (deferPulse o s).line = s.line
      ∧ (deferPulse o s).meter = s.meter ∧ (deferPulse o s).records = s.records ∧ (deferPulse o s).sched = s.sched
      ∧ (deferPulse o s).plans = s.plans ∧ (deferPulse o s).guard = s.guard ∧ (deferPulse o s).watch = s.watch
      ∧ (deferPulse o s).capture = s.capture ∧ (deferPulse o s).notices = s.notices
      ∧ (deferPulse o s).port = s.port ∧ (deferPulse o s).settings = s.settings ∧ (deferPulse o s).xm = s.xm
      ∧ (deferPulse o s).tickDue = s.tickDue ∧ (deferPulse o s).pending = s.pending := by
  simp [deferPulse]

@[simp] theorem pulseMoment_frame (o : OutletIx) (p : Op) (s : State) :
    (pulseMoment o p s).now = s.now ∧ (pulseMoment o p s).resetHeld = s.resetHeld
      ∧ (pulseMoment o p s).port = s.port ∧ (pulseMoment o p s).settings = s.settings
      ∧ (pulseMoment o p s).xm = s.xm ∧ (pulseMoment o p s).tickDue = s.tickDue
      ∧ (pulseMoment o p s).pending = s.pending := by
  unfold pulseMoment
  repeat' split
  all_goals simp

@[simp] theorem pulseOver_frame (o : OutletIx) (p : Op) (s : State) :
    (pulseOver o p s).now = s.now ∧ (pulseOver o p s).resetHeld = s.resetHeld ∧ (pulseOver o p s).line = s.line
      ∧ (pulseOver o p s).capture = s.capture ∧ (pulseOver o p s).port = s.port
      ∧ (pulseOver o p s).settings = s.settings ∧ (pulseOver o p s).xm = s.xm
      ∧ (pulseOver o p s).tickDue = s.tickDue ∧ (pulseOver o p s).pending = s.pending := by
  unfold pulseOver
  repeat' split
  all_goals simp

@[simp] theorem settleOver_frame (o : OutletIx) (p : Op) (s : State) :
    (settleOver o p s).now = s.now ∧ (settleOver o p s).resetHeld = s.resetHeld ∧ (settleOver o p s).line = s.line
      ∧ (settleOver o p s).capture = s.capture ∧ (settleOver o p s).port = s.port
      ∧ (settleOver o p s).settings = s.settings ∧ (settleOver o p s).xm = s.xm
      ∧ (settleOver o p s).tickDue = s.tickDue ∧ (settleOver o p s).pending = s.pending := by
  unfold settleOver
  repeat' split
  all_goals simp

@[simp] theorem enterRetry_frame (o : OutletIx) (p : Op) (s : State) :
    (enterRetry o p s).now = s.now ∧ (enterRetry o p s).resetHeld = s.resetHeld ∧ (enterRetry o p s).line = s.line
      ∧ (enterRetry o p s).guard = s.guard ∧ (enterRetry o p s).watch = s.watch
      ∧ (enterRetry o p s).capture = s.capture ∧ (enterRetry o p s).notices = s.notices
      ∧ (enterRetry o p s).port = s.port ∧ (enterRetry o p s).settings = s.settings ∧ (enterRetry o p s).xm = s.xm
      ∧ (enterRetry o p s).tickDue = s.tickDue ∧ (enterRetry o p s).pending = s.pending := by
  simp [enterRetry]

@[simp] theorem verifyFailed_frame (o : OutletIx) (p : Op) (s : State) :
    (verifyFailed o p s).now = s.now ∧ (verifyFailed o p s).resetHeld = s.resetHeld
      ∧ (verifyFailed o p s).line = s.line ∧ (verifyFailed o p s).capture = s.capture
      ∧ (verifyFailed o p s).port = s.port ∧ (verifyFailed o p s).settings = s.settings
      ∧ (verifyFailed o p s).xm = s.xm ∧ (verifyFailed o p s).tickDue = s.tickDue
      ∧ (verifyFailed o p s).pending = s.pending := by
  unfold verifyFailed
  repeat' split
  all_goals simp

@[simp] theorem actOnVerdict_frame (o : OutletIx) (p : Op) (v : Bool) (s : State) :
    (actOnVerdict o p v s).now = s.now ∧ (actOnVerdict o p v s).resetHeld = s.resetHeld
      ∧ (actOnVerdict o p v s).line = s.line ∧ (actOnVerdict o p v s).capture = s.capture
      ∧ (actOnVerdict o p v s).port = s.port ∧ (actOnVerdict o p v s).settings = s.settings
      ∧ (actOnVerdict o p v s).xm = s.xm ∧ (actOnVerdict o p v s).tickDue = s.tickDue
      ∧ (actOnVerdict o p v s).pending = s.pending := by
  unfold actOnVerdict
  repeat' split
  all_goals simp

@[simp] theorem actOnNoVerdict_frame (o : OutletIx) (p : Op) (s : State) :
    (actOnNoVerdict o p s).now = s.now ∧ (actOnNoVerdict o p s).resetHeld = s.resetHeld
      ∧ (actOnNoVerdict o p s).line = s.line ∧ (actOnNoVerdict o p s).capture = s.capture
      ∧ (actOnNoVerdict o p s).port = s.port ∧ (actOnNoVerdict o p s).settings = s.settings
      ∧ (actOnNoVerdict o p s).xm = s.xm ∧ (actOnNoVerdict o p s).tickDue = s.tickDue
      ∧ (actOnNoVerdict o p s).pending = s.pending := by
  unfold actOnNoVerdict
  repeat' split
  all_goals simp

@[simp] theorem verifyOne_frame (startAt : Nat) (sense : BitVec 48) (o : OutletIx) (s : State) :
    (verifyOne startAt sense o s).now = s.now ∧ (verifyOne startAt sense o s).resetHeld = s.resetHeld
      ∧ (verifyOne startAt sense o s).line = s.line ∧ (verifyOne startAt sense o s).capture = s.capture
      ∧ (verifyOne startAt sense o s).port = s.port ∧ (verifyOne startAt sense o s).settings = s.settings
      ∧ (verifyOne startAt sense o s).xm = s.xm ∧ (verifyOne startAt sense o s).tickDue = s.tickDue
      ∧ (verifyOne startAt sense o s).pending = s.pending := by
  unfold verifyOne
  dsimp only
  repeat' split
  all_goals simp

@[simp] theorem forAll_verifyOne_frame (startAt : Nat) (sense : BitVec 48) (xs : List OutletIx) (s : State) :
    (forAll xs (verifyOne startAt sense) s).now = s.now
      ∧ (forAll xs (verifyOne startAt sense) s).resetHeld = s.resetHeld
      ∧ (forAll xs (verifyOne startAt sense) s).line = s.line
      ∧ (forAll xs (verifyOne startAt sense) s).capture = s.capture
      ∧ (forAll xs (verifyOne startAt sense) s).port = s.port
      ∧ (forAll xs (verifyOne startAt sense) s).settings = s.settings
      ∧ (forAll xs (verifyOne startAt sense) s).xm = s.xm
      ∧ (forAll xs (verifyOne startAt sense) s).tickDue = s.tickDue
      ∧ (forAll xs (verifyOne startAt sense) s).pending = s.pending :=
  ⟨forAll_keeps State.now (fun _ _ => by simp) xs s,
    forAll_keeps State.resetHeld (fun _ _ => by simp) xs s,
    forAll_keeps State.line (fun _ _ => by simp) xs s,
    forAll_keeps State.capture (fun _ _ => by simp) xs s,
    forAll_keeps State.port (fun _ _ => by simp) xs s,
    forAll_keeps State.settings (fun _ _ => by simp) xs s,
    forAll_keeps State.xm (fun _ _ => by simp) xs s,
    forAll_keeps State.tickDue (fun _ _ => by simp) xs s,
    forAll_keeps State.pending (fun _ _ => by simp) xs s⟩

@[simp] theorem verifyAll_frame (startAt : Nat) (sense : BitVec 48) (s : State) :
    (verifyAll startAt sense s).now = s.now ∧ (verifyAll startAt sense s).resetHeld = s.resetHeld
      ∧ (verifyAll startAt sense s).line = s.line ∧ (verifyAll startAt sense s).capture = s.capture
      ∧ (verifyAll startAt sense s).port = s.port ∧ (verifyAll startAt sense s).settings = s.settings
      ∧ (verifyAll startAt sense s).xm = s.xm ∧ (verifyAll startAt sense s).tickDue = s.tickDue
      ∧ (verifyAll startAt sense s).pending = s.pending := by
  simp [verifyAll]

@[simp] theorem mapOps_frame (f : Op → Op) (s : State) :
    (mapOps f s).now = s.now ∧ (mapOps f s).resetHeld = s.resetHeld ∧ (mapOps f s).line = s.line
      ∧ (mapOps f s).meter = s.meter ∧ (mapOps f s).records = s.records ∧ (mapOps f s).sched = s.sched
      ∧ (mapOps f s).plans = s.plans ∧ (mapOps f s).guard = s.guard ∧ (mapOps f s).watch = s.watch
      ∧ (mapOps f s).capture = s.capture ∧ (mapOps f s).notices = s.notices ∧ (mapOps f s).port = s.port
      ∧ (mapOps f s).settings = s.settings ∧ (mapOps f s).xm = s.xm ∧ (mapOps f s).tickDue = s.tickDue
      ∧ (mapOps f s).pending = s.pending := by
  simp [mapOps]

@[simp] theorem pulseAtOnce_frame (o : OutletIx) (p : Op) (s : State) :
    (pulseAtOnce o p s).now = s.now ∧ (pulseAtOnce o p s).resetHeld = s.resetHeld
      ∧ (pulseAtOnce o p s).line = s.line ∧ (pulseAtOnce o p s).meter = s.meter
      ∧ (pulseAtOnce o p s).records = s.records ∧ (pulseAtOnce o p s).sched = s.sched
      ∧ (pulseAtOnce o p s).plans = s.plans ∧ (pulseAtOnce o p s).guard = s.guard
      ∧ (pulseAtOnce o p s).watch = s.watch ∧ (pulseAtOnce o p s).capture = s.capture
      ∧ (pulseAtOnce o p s).notices = s.notices ∧ (pulseAtOnce o p s).port = s.port
      ∧ (pulseAtOnce o p s).settings = s.settings ∧ (pulseAtOnce o p s).xm = s.xm
      ∧ (pulseAtOnce o p s).tickDue = s.tickDue ∧ (pulseAtOnce o p s).pending = s.pending := by
  simp [pulseAtOnce]

@[simp] theorem relayBranchOff_frame (dead : Bool) (o : OutletIx) (s : State) :
    (relayBranchOff dead o s).now = s.now ∧ (relayBranchOff dead o s).resetHeld = s.resetHeld
      ∧ (relayBranchOff dead o s).line = s.line ∧ (relayBranchOff dead o s).capture = s.capture
      ∧ (relayBranchOff dead o s).port = s.port ∧ (relayBranchOff dead o s).settings = s.settings
      ∧ (relayBranchOff dead o s).xm = s.xm ∧ (relayBranchOff dead o s).tickDue = s.tickDue
      ∧ (relayBranchOff dead o s).pending = s.pending := by
  unfold relayBranchOff
  repeat' split
  all_goals simp

@[simp] theorem forAll_relayBranchOff_frame (dead : Bool) (xs : List OutletIx) (s : State) :
    (forAll xs (relayBranchOff dead) s).now = s.now ∧ (forAll xs (relayBranchOff dead) s).resetHeld = s.resetHeld
      ∧ (forAll xs (relayBranchOff dead) s).line = s.line ∧ (forAll xs (relayBranchOff dead) s).capture = s.capture
      ∧ (forAll xs (relayBranchOff dead) s).port = s.port
      ∧ (forAll xs (relayBranchOff dead) s).settings = s.settings ∧ (forAll xs (relayBranchOff dead) s).xm = s.xm
      ∧ (forAll xs (relayBranchOff dead) s).tickDue = s.tickDue
      ∧ (forAll xs (relayBranchOff dead) s).pending = s.pending :=
  ⟨forAll_keeps State.now (fun _ _ => by simp) xs s,
    forAll_keeps State.resetHeld (fun _ _ => by simp) xs s,
    forAll_keeps State.line (fun _ _ => by simp) xs s,
    forAll_keeps State.capture (fun _ _ => by simp) xs s,
    forAll_keeps State.port (fun _ _ => by simp) xs s,
    forAll_keeps State.settings (fun _ _ => by simp) xs s,
    forAll_keeps State.xm (fun _ _ => by simp) xs s,
    forAll_keeps State.tickDue (fun _ _ => by simp) xs s,
    forAll_keeps State.pending (fun _ _ => by simp) xs s⟩

@[simp] theorem clearFaultPosition_frame (o : OutletIx) (s : State) :
    (clearFaultPosition o s).now = s.now ∧ (clearFaultPosition o s).resetHeld = s.resetHeld
      ∧ (clearFaultPosition o s).line = s.line ∧ (clearFaultPosition o s).meter = s.meter
      ∧ (clearFaultPosition o s).records = s.records ∧ (clearFaultPosition o s).sched = s.sched
      ∧ (clearFaultPosition o s).plans = s.plans ∧ (clearFaultPosition o s).guard = s.guard
      ∧ (clearFaultPosition o s).watch = s.watch ∧ (clearFaultPosition o s).capture = s.capture
      ∧ (clearFaultPosition o s).notices = s.notices ∧ (clearFaultPosition o s).port = s.port
      ∧ (clearFaultPosition o s).settings = s.settings ∧ (clearFaultPosition o s).xm = s.xm
      ∧ (clearFaultPosition o s).tickDue = s.tickDue ∧ (clearFaultPosition o s).pending = s.pending := by
  unfold clearFaultPosition
  repeat' split
  all_goals simp


/-! ### GuardOps -/

@[simp] theorem handBranchConditions_frame (b : BranchIx) (s : State) :
    (handBranchConditions b s).now = s.now ∧ (handBranchConditions b s).resetHeld = s.resetHeld
      ∧ (handBranchConditions b s).line = s.line ∧ (handBranchConditions b s).meter = s.meter
      ∧ (handBranchConditions b s).records = s.records ∧ (handBranchConditions b s).relay = s.relay
      ∧ (handBranchConditions b s).sched = s.sched ∧ (handBranchConditions b s).plans = s.plans
      ∧ (handBranchConditions b s).guard = s.guard ∧ (handBranchConditions b s).watch = s.watch
      ∧ (handBranchConditions b s).capture = s.capture ∧ (handBranchConditions b s).port = s.port
      ∧ (handBranchConditions b s).settings = s.settings ∧ (handBranchConditions b s).xm = s.xm
      ∧ (handBranchConditions b s).tickDue = s.tickDue ∧ (handBranchConditions b s).pending = s.pending := by
  simp [handBranchConditions]

@[simp] theorem schedBranchChange_frame (b : BranchIx) (new : BranchState) (s : State) :
    (schedBranchChange b new s).now = s.now ∧ (schedBranchChange b new s).resetHeld = s.resetHeld
      ∧ (schedBranchChange b new s).line = s.line ∧ (schedBranchChange b new s).guard = s.guard
      ∧ (schedBranchChange b new s).watch = s.watch ∧ (schedBranchChange b new s).capture = s.capture
      ∧ (schedBranchChange b new s).notices = s.notices ∧ (schedBranchChange b new s).port = s.port
      ∧ (schedBranchChange b new s).settings = s.settings ∧ (schedBranchChange b new s).xm = s.xm
      ∧ (schedBranchChange b new s).tickDue = s.tickDue ∧ (schedBranchChange b new s).pending = s.pending := by
  unfold schedBranchChange
  repeat' split
  all_goals simp

@[simp] theorem relayBranchChange_frame (b : BranchIx) (old new : BranchState) (s : State) :
    (relayBranchChange b old new s).now = s.now ∧ (relayBranchChange b old new s).resetHeld = s.resetHeld
      ∧ (relayBranchChange b old new s).line = s.line ∧ (relayBranchChange b old new s).capture = s.capture
      ∧ (relayBranchChange b old new s).port = s.port ∧ (relayBranchChange b old new s).settings = s.settings
      ∧ (relayBranchChange b old new s).xm = s.xm ∧ (relayBranchChange b old new s).tickDue = s.tickDue
      ∧ (relayBranchChange b old new s).pending = s.pending := by
  unfold relayBranchChange
  repeat' split
  all_goals simp

@[simp] theorem changeBranch_frame (b : BranchIx) (new : BranchState) (s : State) :
    (changeBranch b new s).now = s.now ∧ (changeBranch b new s).resetHeld = s.resetHeld
      ∧ (changeBranch b new s).line = s.line ∧ (changeBranch b new s).capture = s.capture
      ∧ (changeBranch b new s).port = s.port ∧ (changeBranch b new s).settings = s.settings
      ∧ (changeBranch b new s).xm = s.xm ∧ (changeBranch b new s).tickDue = s.tickDue
      ∧ (changeBranch b new s).pending = s.pending := by
  simp [changeBranch]

@[simp] theorem sweepOne_frame (o : OutletIx) (s : State) :
    (sweepOne o s).now = s.now ∧ (sweepOne o s).resetHeld = s.resetHeld ∧ (sweepOne o s).line = s.line
      ∧ (sweepOne o s).capture = s.capture ∧ (sweepOne o s).port = s.port ∧ (sweepOne o s).settings = s.settings
      ∧ (sweepOne o s).xm = s.xm ∧ (sweepOne o s).tickDue = s.tickDue ∧ (sweepOne o s).pending = s.pending := by
  unfold sweepOne
  repeat' split
  all_goals simp

@[simp] theorem forAll_sweepOne_frame (xs : List OutletIx) (s : State) :
    (forAll xs sweepOne s).now = s.now ∧ (forAll xs sweepOne s).resetHeld = s.resetHeld
      ∧ (forAll xs sweepOne s).line = s.line ∧ (forAll xs sweepOne s).capture = s.capture
      ∧ (forAll xs sweepOne s).port = s.port ∧ (forAll xs sweepOne s).settings = s.settings
      ∧ (forAll xs sweepOne s).xm = s.xm ∧ (forAll xs sweepOne s).tickDue = s.tickDue
      ∧ (forAll xs sweepOne s).pending = s.pending :=
  ⟨forAll_keeps State.now (fun _ _ => by simp) xs s,
    forAll_keeps State.resetHeld (fun _ _ => by simp) xs s,
    forAll_keeps State.line (fun _ _ => by simp) xs s,
    forAll_keeps State.capture (fun _ _ => by simp) xs s,
    forAll_keeps State.port (fun _ _ => by simp) xs s,
    forAll_keeps State.settings (fun _ _ => by simp) xs s,
    forAll_keeps State.xm (fun _ _ => by simp) xs s,
    forAll_keeps State.tickDue (fun _ _ => by simp) xs s,
    forAll_keeps State.pending (fun _ _ => by simp) xs s⟩

@[simp] theorem releaseSweep_frame (b : BranchIx) (s : State) :
    (releaseSweep b s).now = s.now ∧ (releaseSweep b s).resetHeld = s.resetHeld ∧ (releaseSweep b s).line = s.line
      ∧ (releaseSweep b s).capture = s.capture ∧ (releaseSweep b s).port = s.port
      ∧ (releaseSweep b s).settings = s.settings ∧ (releaseSweep b s).xm = s.xm
      ∧ (releaseSweep b s).tickDue = s.tickDue ∧ (releaseSweep b s).pending = s.pending := by
  simp [releaseSweep]

@[simp] theorem enterDead_frame (b : BranchIx) (s : State) :
    (enterDead b s).now = s.now ∧ (enterDead b s).resetHeld = s.resetHeld ∧ (enterDead b s).line = s.line
      ∧ (enterDead b s).capture = s.capture ∧ (enterDead b s).port = s.port ∧ (enterDead b s).settings = s.settings
      ∧ (enterDead b s).xm = s.xm ∧ (enterDead b s).tickDue = s.tickDue ∧ (enterDead b s).pending = s.pending := by
  unfold enterDead
  dsimp only
  repeat' split
  all_goals simp

@[simp] theorem releaseRestore_frame (o : OutletIx) (s : State) :
    (releaseRestore o s).now = s.now ∧ (releaseRestore o s).resetHeld = s.resetHeld
      ∧ (releaseRestore o s).line = s.line ∧ (releaseRestore o s).capture = s.capture
      ∧ (releaseRestore o s).port = s.port ∧ (releaseRestore o s).settings = s.settings
      ∧ (releaseRestore o s).xm = s.xm ∧ (releaseRestore o s).tickDue = s.tickDue
      ∧ (releaseRestore o s).pending = s.pending := by
  unfold releaseRestore
  repeat' split
  all_goals simp

@[simp] theorem forAll_releaseRestore_frame (xs : List OutletIx) (s : State) :
    (forAll xs releaseRestore s).now = s.now ∧ (forAll xs releaseRestore s).resetHeld = s.resetHeld
      ∧ (forAll xs releaseRestore s).line = s.line ∧ (forAll xs releaseRestore s).capture = s.capture
      ∧ (forAll xs releaseRestore s).port = s.port ∧ (forAll xs releaseRestore s).settings = s.settings
      ∧ (forAll xs releaseRestore s).xm = s.xm ∧ (forAll xs releaseRestore s).tickDue = s.tickDue
      ∧ (forAll xs releaseRestore s).pending = s.pending :=
  ⟨forAll_keeps State.now (fun _ _ => by simp) xs s,
    forAll_keeps State.resetHeld (fun _ _ => by simp) xs s,
    forAll_keeps State.line (fun _ _ => by simp) xs s,
    forAll_keeps State.capture (fun _ _ => by simp) xs s,
    forAll_keeps State.port (fun _ _ => by simp) xs s,
    forAll_keeps State.settings (fun _ _ => by simp) xs s,
    forAll_keeps State.xm (fun _ _ => by simp) xs s,
    forAll_keeps State.tickDue (fun _ _ => by simp) xs s,
    forAll_keeps State.pending (fun _ _ => by simp) xs s⟩

@[simp] theorem releaseRestores_frame (b : BranchIx) (s : State) :
    (releaseRestores b s).now = s.now ∧ (releaseRestores b s).resetHeld = s.resetHeld
      ∧ (releaseRestores b s).line = s.line ∧ (releaseRestores b s).capture = s.capture
      ∧ (releaseRestores b s).port = s.port ∧ (releaseRestores b s).settings = s.settings
      ∧ (releaseRestores b s).xm = s.xm ∧ (releaseRestores b s).tickDue = s.tickDue
      ∧ (releaseRestores b s).pending = s.pending := by
  simp [releaseRestores]

@[simp] theorem enterLive_frame (b : BranchIx) (s : State) :
    (enterLive b s).now = s.now ∧ (enterLive b s).resetHeld = s.resetHeld ∧ (enterLive b s).line = s.line
      ∧ (enterLive b s).capture = s.capture ∧ (enterLive b s).port = s.port ∧ (enterLive b s).settings = s.settings
      ∧ (enterLive b s).xm = s.xm ∧ (enterLive b s).tickDue = s.tickDue ∧ (enterLive b s).pending = s.pending := by
  simp [enterLive]

@[simp] theorem returnIfOver_frame (b : BranchIx) (s : State) :
    (returnIfOver b s).now = s.now ∧ (returnIfOver b s).resetHeld = s.resetHeld ∧ (returnIfOver b s).line = s.line
      ∧ (returnIfOver b s).capture = s.capture ∧ (returnIfOver b s).port = s.port
      ∧ (returnIfOver b s).settings = s.settings ∧ (returnIfOver b s).xm = s.xm
      ∧ (returnIfOver b s).tickDue = s.tickDue ∧ (returnIfOver b s).pending = s.pending := by
  unfold returnIfOver
  repeat' split
  all_goals simp

@[simp] theorem enterReturning_frame (b : BranchIx) (s : State) :
    (enterReturning b s).now = s.now ∧ (enterReturning b s).resetHeld = s.resetHeld
      ∧ (enterReturning b s).line = s.line ∧ (enterReturning b s).capture = s.capture
      ∧ (enterReturning b s).port = s.port ∧ (enterReturning b s).settings = s.settings
      ∧ (enterReturning b s).xm = s.xm ∧ (enterReturning b s).tickDue = s.tickDue
      ∧ (enterReturning b s).pending = s.pending := by
  simp [enterReturning]

@[simp] theorem debouncedChange_frame (b : BranchIx) (s : State) :
    (debouncedChange b s).now = s.now ∧ (debouncedChange b s).resetHeld = s.resetHeld
      ∧ (debouncedChange b s).line = s.line ∧ (debouncedChange b s).capture = s.capture
      ∧ (debouncedChange b s).port = s.port ∧ (debouncedChange b s).settings = s.settings
      ∧ (debouncedChange b s).xm = s.xm ∧ (debouncedChange b s).tickDue = s.tickDue
      ∧ (debouncedChange b s).pending = s.pending := by
  unfold debouncedChange
  dsimp only
  repeat' split
  all_goals simp

@[simp] theorem debounceIfOver_frame (b : BranchIx) (s : State) :
    (debounceIfOver b s).now = s.now ∧ (debounceIfOver b s).resetHeld = s.resetHeld
      ∧ (debounceIfOver b s).line = s.line ∧ (debounceIfOver b s).capture = s.capture
      ∧ (debounceIfOver b s).port = s.port ∧ (debounceIfOver b s).settings = s.settings
      ∧ (debounceIfOver b s).xm = s.xm ∧ (debounceIfOver b s).tickDue = s.tickDue
      ∧ (debounceIfOver b s).pending = s.pending := by
  unfold debounceIfOver
  repeat' split
  all_goals simp

@[simp] theorem correctedChange_frame (b : BranchIx) (s : State) :
    (correctedChange b s).now = s.now ∧ (correctedChange b s).resetHeld = s.resetHeld
      ∧ (correctedChange b s).line = s.line ∧ (correctedChange b s).capture = s.capture
      ∧ (correctedChange b s).port = s.port ∧ (correctedChange b s).settings = s.settings
      ∧ (correctedChange b s).xm = s.xm ∧ (correctedChange b s).tickDue = s.tickDue
      ∧ (correctedChange b s).pending = s.pending := by
  unfold correctedChange
  repeat' split
  all_goals simp

@[simp] theorem takeInput_frame (b : BranchIx) (level : Bool) (s : State) :
    (takeInput b level s).now = s.now ∧ (takeInput b level s).resetHeld = s.resetHeld
      ∧ (takeInput b level s).line = s.line ∧ (takeInput b level s).capture = s.capture
      ∧ (takeInput b level s).port = s.port ∧ (takeInput b level s).settings = s.settings
      ∧ (takeInput b level s).xm = s.xm ∧ (takeInput b level s).tickDue = s.tickDue
      ∧ (takeInput b level s).pending = s.pending := by
  unfold takeInput
  repeat' split
  all_goals simp

@[simp] theorem requestShed_frame (b : BranchIx) (o : OutletIx) (s : State) :
    (requestShed b o s).now = s.now ∧ (requestShed b o s).resetHeld = s.resetHeld
      ∧ (requestShed b o s).line = s.line ∧ (requestShed b o s).capture = s.capture
      ∧ (requestShed b o s).port = s.port ∧ (requestShed b o s).settings = s.settings
      ∧ (requestShed b o s).xm = s.xm ∧ (requestShed b o s).tickDue = s.tickDue
      ∧ (requestShed b o s).pending = s.pending := by
  simp [requestShed]

@[simp] theorem shedSelection_frame (b : BranchIx) (s : State) :
    (shedSelection b s).now = s.now ∧ (shedSelection b s).resetHeld = s.resetHeld
      ∧ (shedSelection b s).line = s.line ∧ (shedSelection b s).capture = s.capture
      ∧ (shedSelection b s).port = s.port ∧ (shedSelection b s).settings = s.settings
      ∧ (shedSelection b s).xm = s.xm ∧ (shedSelection b s).tickDue = s.tickDue
      ∧ (shedSelection b s).pending = s.pending := by
  unfold shedSelection
  dsimp only
  repeat' split
  all_goals simp

@[simp] theorem enterShedding_frame (b : BranchIx) (s : State) :
    (enterShedding b s).now = s.now ∧ (enterShedding b s).resetHeld = s.resetHeld
      ∧ (enterShedding b s).line = s.line ∧ (enterShedding b s).capture = s.capture
      ∧ (enterShedding b s).port = s.port ∧ (enterShedding b s).settings = s.settings
      ∧ (enterShedding b s).xm = s.xm ∧ (enterShedding b s).tickDue = s.tickDue
      ∧ (enterShedding b s).pending = s.pending := by
  simp [enterShedding]

@[simp] theorem overloadOver_frame (b : BranchIx) (s : State) :
    (overloadOver b s).now = s.now ∧ (overloadOver b s).resetHeld = s.resetHeld ∧ (overloadOver b s).line = s.line
      ∧ (overloadOver b s).capture = s.capture ∧ (overloadOver b s).port = s.port
      ∧ (overloadOver b s).settings = s.settings ∧ (overloadOver b s).xm = s.xm
      ∧ (overloadOver b s).tickDue = s.tickDue ∧ (overloadOver b s).pending = s.pending := by
  simp [overloadOver]

@[simp] theorem stepClose_frame (b : BranchIx) (s : State) :
    (stepClose b s).now = s.now ∧ (stepClose b s).resetHeld = s.resetHeld ∧ (stepClose b s).line = s.line
      ∧ (stepClose b s).capture = s.capture ∧ (stepClose b s).port = s.port ∧ (stepClose b s).settings = s.settings
      ∧ (stepClose b s).xm = s.xm ∧ (stepClose b s).tickDue = s.tickDue ∧ (stepClose b s).pending = s.pending := by
  unfold stepClose
  dsimp only
  repeat' split
  all_goals simp

@[simp] theorem sheddingClose_frame (b : BranchIx) (s : State) :
    (sheddingClose b s).now = s.now ∧ (sheddingClose b s).resetHeld = s.resetHeld
      ∧ (sheddingClose b s).line = s.line ∧ (sheddingClose b s).capture = s.capture
      ∧ (sheddingClose b s).port = s.port ∧ (sheddingClose b s).settings = s.settings
      ∧ (sheddingClose b s).xm = s.xm ∧ (sheddingClose b s).tickDue = s.tickDue
      ∧ (sheddingClose b s).pending = s.pending := by
  unfold sheddingClose
  repeat' split
  all_goals simp

@[simp] theorem restoreSelection_frame (b : BranchIx) (s : State) :
    (restoreSelection b s).now = s.now ∧ (restoreSelection b s).resetHeld = s.resetHeld
      ∧ (restoreSelection b s).line = s.line ∧ (restoreSelection b s).capture = s.capture
      ∧ (restoreSelection b s).port = s.port ∧ (restoreSelection b s).settings = s.settings
      ∧ (restoreSelection b s).xm = s.xm ∧ (restoreSelection b s).tickDue = s.tickDue
      ∧ (restoreSelection b s).pending = s.pending := by
  unfold restoreSelection
  repeat' split
  all_goals simp

@[simp] theorem restoreClose_frame (b : BranchIx) (s : State) :
    (restoreClose b s).now = s.now ∧ (restoreClose b s).resetHeld = s.resetHeld ∧ (restoreClose b s).line = s.line
      ∧ (restoreClose b s).capture = s.capture ∧ (restoreClose b s).port = s.port
      ∧ (restoreClose b s).settings = s.settings ∧ (restoreClose b s).xm = s.xm
      ∧ (restoreClose b s).tickDue = s.tickDue ∧ (restoreClose b s).pending = s.pending := by
  unfold restoreClose
  dsimp only
  repeat' split
  all_goals simp

@[simp] theorem liveClose_frame (b : BranchIx) (s : State) :
    (liveClose b s).now = s.now ∧ (liveClose b s).resetHeld = s.resetHeld ∧ (liveClose b s).line = s.line
      ∧ (liveClose b s).capture = s.capture ∧ (liveClose b s).port = s.port ∧ (liveClose b s).settings = s.settings
      ∧ (liveClose b s).xm = s.xm ∧ (liveClose b s).tickDue = s.tickDue ∧ (liveClose b s).pending = s.pending := by
  unfold liveClose
  dsimp only
  repeat' split
  all_goals simp

@[simp] theorem overloadClose_frame (b : BranchIx) (s : State) :
    (overloadClose b s).now = s.now ∧ (overloadClose b s).resetHeld = s.resetHeld
      ∧ (overloadClose b s).line = s.line ∧ (overloadClose b s).capture = s.capture
      ∧ (overloadClose b s).port = s.port ∧ (overloadClose b s).settings = s.settings
      ∧ (overloadClose b s).xm = s.xm ∧ (overloadClose b s).tickDue = s.tickDue
      ∧ (overloadClose b s).pending = s.pending := by
  unfold overloadClose
  dsimp only
  repeat' split
  all_goals simp

@[simp] theorem branchClose_frame (b : BranchIx) (s : State) :
    (branchClose b s).now = s.now ∧ (branchClose b s).resetHeld = s.resetHeld ∧ (branchClose b s).line = s.line
      ∧ (branchClose b s).capture = s.capture ∧ (branchClose b s).port = s.port
      ∧ (branchClose b s).settings = s.settings ∧ (branchClose b s).xm = s.xm
      ∧ (branchClose b s).tickDue = s.tickDue ∧ (branchClose b s).pending = s.pending := by
  unfold branchClose
  repeat' split
  all_goals simp

@[simp] theorem guardCloseOne_frame (b : BranchIx) (s : State) :
    (guardCloseOne b s).now = s.now ∧ (guardCloseOne b s).resetHeld = s.resetHeld
      ∧ (guardCloseOne b s).line = s.line ∧ (guardCloseOne b s).capture = s.capture
      ∧ (guardCloseOne b s).port = s.port ∧ (guardCloseOne b s).settings = s.settings
      ∧ (guardCloseOne b s).xm = s.xm ∧ (guardCloseOne b s).tickDue = s.tickDue
      ∧ (guardCloseOne b s).pending = s.pending := by
  unfold guardCloseOne
  repeat' split
  all_goals simp

@[simp] theorem forAll_guardCloseOne_frame (xs : List BranchIx) (s : State) :
    (forAll xs guardCloseOne s).now = s.now ∧ (forAll xs guardCloseOne s).resetHeld = s.resetHeld
      ∧ (forAll xs guardCloseOne s).line = s.line ∧ (forAll xs guardCloseOne s).capture = s.capture
      ∧ (forAll xs guardCloseOne s).port = s.port ∧ (forAll xs guardCloseOne s).settings = s.settings
      ∧ (forAll xs guardCloseOne s).xm = s.xm ∧ (forAll xs guardCloseOne s).tickDue = s.tickDue
      ∧ (forAll xs guardCloseOne s).pending = s.pending :=
  ⟨forAll_keeps State.now (fun _ _ => by simp) xs s,
    forAll_keeps State.resetHeld (fun _ _ => by simp) xs s,
    forAll_keeps State.line (fun _ _ => by simp) xs s,
    forAll_keeps State.capture (fun _ _ => by simp) xs s,
    forAll_keeps State.port (fun _ _ => by simp) xs s,
    forAll_keeps State.settings (fun _ _ => by simp) xs s,
    forAll_keeps State.xm (fun _ _ => by simp) xs s,
    forAll_keeps State.tickDue (fun _ _ => by simp) xs s,
    forAll_keeps State.pending (fun _ _ => by simp) xs s⟩

@[simp] theorem guardClose_frame (s : State) :
    (guardClose s).now = s.now ∧ (guardClose s).resetHeld = s.resetHeld ∧ (guardClose s).line = s.line
      ∧ (guardClose s).capture = s.capture ∧ (guardClose s).port = s.port ∧ (guardClose s).settings = s.settings
      ∧ (guardClose s).xm = s.xm ∧ (guardClose s).tickDue = s.tickDue ∧ (guardClose s).pending = s.pending := by
  simp [guardClose]

@[simp] theorem tickGuard_frame (s : State) :
    (tickGuard s).now = s.now ∧ (tickGuard s).resetHeld = s.resetHeld ∧ (tickGuard s).line = s.line
      ∧ (tickGuard s).meter = s.meter ∧ (tickGuard s).records = s.records ∧ (tickGuard s).relay = s.relay
      ∧ (tickGuard s).sched = s.sched ∧ (tickGuard s).plans = s.plans ∧ (tickGuard s).watch = s.watch
      ∧ (tickGuard s).capture = s.capture ∧ (tickGuard s).notices = s.notices ∧ (tickGuard s).port = s.port
      ∧ (tickGuard s).settings = s.settings ∧ (tickGuard s).xm = s.xm ∧ (tickGuard s).tickDue = s.tickDue
      ∧ (tickGuard s).pending = s.pending := by
  simp [tickGuard]

@[simp] theorem warmBranch_frame (b : BranchIx) (s : State) :
    (warmBranch b s).now = s.now ∧ (warmBranch b s).resetHeld = s.resetHeld ∧ (warmBranch b s).line = s.line
      ∧ (warmBranch b s).capture = s.capture ∧ (warmBranch b s).port = s.port
      ∧ (warmBranch b s).settings = s.settings ∧ (warmBranch b s).xm = s.xm ∧ (warmBranch b s).tickDue = s.tickDue
      ∧ (warmBranch b s).pending = s.pending := by
  unfold warmBranch
  dsimp only
  repeat' split
  all_goals simp

@[simp] theorem forAll_warmBranch_frame (xs : List BranchIx) (s : State) :
    (forAll xs warmBranch s).now = s.now ∧ (forAll xs warmBranch s).resetHeld = s.resetHeld
      ∧ (forAll xs warmBranch s).line = s.line ∧ (forAll xs warmBranch s).capture = s.capture
      ∧ (forAll xs warmBranch s).port = s.port ∧ (forAll xs warmBranch s).settings = s.settings
      ∧ (forAll xs warmBranch s).xm = s.xm ∧ (forAll xs warmBranch s).tickDue = s.tickDue
      ∧ (forAll xs warmBranch s).pending = s.pending :=
  ⟨forAll_keeps State.now (fun _ _ => by simp) xs s,
    forAll_keeps State.resetHeld (fun _ _ => by simp) xs s,
    forAll_keeps State.line (fun _ _ => by simp) xs s,
    forAll_keeps State.capture (fun _ _ => by simp) xs s,
    forAll_keeps State.port (fun _ _ => by simp) xs s,
    forAll_keeps State.settings (fun _ _ => by simp) xs s,
    forAll_keeps State.xm (fun _ _ => by simp) xs s,
    forAll_keeps State.tickDue (fun _ _ => by simp) xs s,
    forAll_keeps State.pending (fun _ _ => by simp) xs s⟩

@[simp] theorem guardWarm_frame (s : State) :
    (guardWarm s).now = s.now ∧ (guardWarm s).resetHeld = s.resetHeld ∧ (guardWarm s).line = s.line
      ∧ (guardWarm s).capture = s.capture ∧ (guardWarm s).port = s.port ∧ (guardWarm s).settings = s.settings
      ∧ (guardWarm s).xm = s.xm ∧ (guardWarm s).tickDue = s.tickDue ∧ (guardWarm s).pending = s.pending := by
  simp [guardWarm]


/-! ### StallOps -/

/-- What entering STALLED leaves: it changes the outlet's watch state alone. -/
@[simp] theorem enterStalled_frame (o : OutletIx) (s : State) :
    (enterStalled o s).now = s.now ∧ (enterStalled o s).resetHeld = s.resetHeld ∧ (enterStalled o s).line = s.line
      ∧ (enterStalled o s).meter = s.meter ∧ (enterStalled o s).records = s.records
      ∧ (enterStalled o s).relay = s.relay ∧ (enterStalled o s).sched = s.sched
      ∧ (enterStalled o s).plans = s.plans ∧ (enterStalled o s).guard = s.guard
      ∧ (enterStalled o s).capture = s.capture ∧ (enterStalled o s).notices = s.notices
      ∧ (enterStalled o s).port = s.port ∧ (enterStalled o s).settings = s.settings ∧ (enterStalled o s).xm = s.xm
      ∧ (enterStalled o s).tickDue = s.tickDue ∧ (enterStalled o s).pending = s.pending := by
  simp [enterStalled]

@[simp] theorem requestRecovery_frame (o : OutletIx) (s : State) :
    (requestRecovery o s).now = s.now ∧ (requestRecovery o s).resetHeld = s.resetHeld
      ∧ (requestRecovery o s).line = s.line ∧ (requestRecovery o s).capture = s.capture
      ∧ (requestRecovery o s).port = s.port ∧ (requestRecovery o s).settings = s.settings
      ∧ (requestRecovery o s).xm = s.xm ∧ (requestRecovery o s).tickDue = s.tickDue
      ∧ (requestRecovery o s).pending = s.pending := by
  unfold requestRecovery
  repeat' split
  all_goals simp

/-- A declaration leaves the plans and the schedule alone where its request is declined. -/
@[simp] theorem declareStallBy_enterStalled_frame (o : OutletIx) (s : State) :
    (declareStallBy enterStalled o s).now = s.now ∧ (declareStallBy enterStalled o s).resetHeld = s.resetHeld
      ∧ (declareStallBy enterStalled o s).line = s.line ∧ (declareStallBy enterStalled o s).meter = s.meter
      ∧ (declareStallBy enterStalled o s).records = s.records ∧ (declareStallBy enterStalled o s).relay = s.relay
      ∧ (declareStallBy enterStalled o s).sched = s.sched ∧ (declareStallBy enterStalled o s).plans = s.plans
      ∧ (declareStallBy enterStalled o s).guard = s.guard ∧ (declareStallBy enterStalled o s).capture = s.capture
      ∧ (declareStallBy enterStalled o s).port = s.port ∧ (declareStallBy enterStalled o s).settings = s.settings
      ∧ (declareStallBy enterStalled o s).xm = s.xm ∧ (declareStallBy enterStalled o s).tickDue = s.tickDue
      ∧ (declareStallBy enterStalled o s).pending = s.pending := by
  unfold declareStallBy
  dsimp only
  repeat' split
  all_goals simp

@[simp] theorem declareStall_frame (o : OutletIx) (s : State) :
    (declareStall o s).now = s.now ∧ (declareStall o s).resetHeld = s.resetHeld ∧ (declareStall o s).line = s.line
      ∧ (declareStall o s).capture = s.capture ∧ (declareStall o s).port = s.port
      ∧ (declareStall o s).settings = s.settings ∧ (declareStall o s).xm = s.xm
      ∧ (declareStall o s).tickDue = s.tickDue ∧ (declareStall o s).pending = s.pending := by
  unfold declareStall declareStallBy
  dsimp only
  repeat' split
  all_goals simp

@[simp] theorem runTickEvent_frame (e : TickEvent) (s : State) :
    (runTickEvent e s).now = s.now ∧ (runTickEvent e s).resetHeld = s.resetHeld ∧ (runTickEvent e s).line = s.line
      ∧ (runTickEvent e s).capture = s.capture ∧ (runTickEvent e s).port = s.port
      ∧ (runTickEvent e s).settings = s.settings ∧ (runTickEvent e s).xm = s.xm
      ∧ (runTickEvent e s).tickDue = s.tickDue ∧ (runTickEvent e s).pending = s.pending := by
  cases e <;> simp [runTickEvent]

@[simp] theorem forAll_runTickEvent_frame (xs : List TickEvent) (s : State) :
    (forAll xs runTickEvent s).now = s.now ∧ (forAll xs runTickEvent s).resetHeld = s.resetHeld
      ∧ (forAll xs runTickEvent s).line = s.line ∧ (forAll xs runTickEvent s).capture = s.capture
      ∧ (forAll xs runTickEvent s).port = s.port ∧ (forAll xs runTickEvent s).settings = s.settings
      ∧ (forAll xs runTickEvent s).xm = s.xm ∧ (forAll xs runTickEvent s).tickDue = s.tickDue
      ∧ (forAll xs runTickEvent s).pending = s.pending :=
  ⟨forAll_keeps State.now (fun _ _ => by simp) xs s,
    forAll_keeps State.resetHeld (fun _ _ => by simp) xs s,
    forAll_keeps State.line (fun _ _ => by simp) xs s,
    forAll_keeps State.capture (fun _ _ => by simp) xs s,
    forAll_keeps State.port (fun _ _ => by simp) xs s,
    forAll_keeps State.settings (fun _ _ => by simp) xs s,
    forAll_keeps State.xm (fun _ _ => by simp) xs s,
    forAll_keeps State.tickDue (fun _ _ => by simp) xs s,
    forAll_keeps State.pending (fun _ _ => by simp) xs s⟩

@[simp] theorem takeTickEvent_frame (e : TickEvent) (s : State) :
    (takeTickEvent e s).now = s.now ∧ (takeTickEvent e s).resetHeld = s.resetHeld
      ∧ (takeTickEvent e s).line = s.line ∧ (takeTickEvent e s).capture = s.capture
      ∧ (takeTickEvent e s).port = s.port ∧ (takeTickEvent e s).settings = s.settings
      ∧ (takeTickEvent e s).xm = s.xm ∧ (takeTickEvent e s).pending = s.pending := by
  unfold takeTickEvent
  repeat' split
  all_goals simp

@[simp] theorem takeStall_frame (o : OutletIx) (s : State) :
    (takeStall o s).now = s.now ∧ (takeStall o s).resetHeld = s.resetHeld ∧ (takeStall o s).line = s.line
      ∧ (takeStall o s).capture = s.capture ∧ (takeStall o s).port = s.port ∧ (takeStall o s).settings = s.settings
      ∧ (takeStall o s).xm = s.xm ∧ (takeStall o s).pending = s.pending := by
  unfold takeStall
  repeat' split
  all_goals simp

@[simp] theorem runTickEvents_frame (es : List TickEvent) (s : State) :
    (runTickEvents es s).now = s.now ∧ (runTickEvents es s).resetHeld = s.resetHeld
      ∧ (runTickEvents es s).line = s.line ∧ (runTickEvents es s).capture = s.capture
      ∧ (runTickEvents es s).port = s.port ∧ (runTickEvents es s).settings = s.settings
      ∧ (runTickEvents es s).xm = s.xm ∧ (runTickEvents es s).tickDue = s.tickDue
      ∧ (runTickEvents es s).pending = s.pending := by
  simp [runTickEvents]

@[simp] theorem flushTick_frame (s : State) :
    (flushTick s).now = s.now ∧ (flushTick s).resetHeld = s.resetHeld ∧ (flushTick s).line = s.line
      ∧ (flushTick s).capture = s.capture ∧ (flushTick s).port = s.port ∧ (flushTick s).settings = s.settings
      ∧ (flushTick s).xm = s.xm ∧ (flushTick s).tickDue = [] ∧ (flushTick s).pending = s.pending := by
  simp [flushTick]

@[simp] theorem runEventBefore_frame (creates : State → OutletIx → Bool) (e : TickEvent) (s : State) :
    (runEventBefore creates e s).now = s.now ∧ (runEventBefore creates e s).resetHeld = s.resetHeld
      ∧ (runEventBefore creates e s).line = s.line ∧ (runEventBefore creates e s).capture = s.capture
      ∧ (runEventBefore creates e s).port = s.port ∧ (runEventBefore creates e s).settings = s.settings
      ∧ (runEventBefore creates e s).xm = s.xm ∧ (runEventBefore creates e s).tickDue = s.tickDue
      ∧ (runEventBefore creates e s).pending = s.pending := by
  cases e <;> simp only [runEventBefore]
  case stall => split <;> simp
  all_goals simp

@[simp] theorem flushBefore_frame (creates : State → OutletIx → Bool) (s : State) :
    (flushBefore creates s).now = s.now ∧ (flushBefore creates s).resetHeld = s.resetHeld
      ∧ (flushBefore creates s).line = s.line ∧ (flushBefore creates s).capture = s.capture
      ∧ (flushBefore creates s).port = s.port ∧ (flushBefore creates s).settings = s.settings
      ∧ (flushBefore creates s).xm = s.xm ∧ (flushBefore creates s).tickDue = []
      ∧ (flushBefore creates s).pending = s.pending := by
  have keep := fun {β : Type} (g : State → β) (h : ∀ e s, g (runEventBefore creates e s) = g s) =>
    forAll_keeps g (fun e s => h e s) s.tickDue { s with tickDue := [] }
  simp only [flushBefore]
  exact ⟨keep State.now (by simp), keep State.resetHeld (by simp), keep State.line (by simp),
    keep State.capture (by simp), keep State.port (by simp), keep State.settings (by simp), keep State.xm (by simp),
    keep State.tickDue (by simp), keep State.pending (by simp)⟩

/-- A command that creates no plan finds the tick's events carried out as any other command does. -/
theorem flushBefore_none (s : State) : flushBefore (fun _ _ => false) s = flushTick s := by
  have h : runEventBefore (fun _ _ => false) = runTickEvent := by
    funext e t; cases e <;> simp [runEventBefore, runTickEvent]
  simp only [flushBefore, flushTick, runTickEvents, h]

end Sys2Proof.Machine
end

