-- ==== Sys2Proof/Laws/FrameHost.lean ====
section
/-! SUPPORT. Frames of the shared operations of the Metering Engine, the Line Tracker, the services and the
control port. -/

namespace Sys2Proof.Machine

/-! ### MeterOps -/

@[simp] theorem raiseSaturated_frame (old : Vector OutletMeter 48) (o : OutletIx) (s : State) :
    (raiseSaturated old o s).now = s.now ∧ (raiseSaturated old o s).resetHeld = s.resetHeld
      ∧ (raiseSaturated old o s).line = s.line ∧ (raiseSaturated old o s).meter = s.meter
      ∧ (raiseSaturated old o s).records = s.records ∧ (raiseSaturated old o s).relay = s.relay
      ∧ (raiseSaturated old o s).sched = s.sched ∧ (raiseSaturated old o s).plans = s.plans
      ∧ (raiseSaturated old o s).guard = s.guard ∧ (raiseSaturated old o s).watch = s.watch
      ∧ (raiseSaturated old o s).capture = s.capture ∧ (raiseSaturated old o s).port = s.port
      ∧ (raiseSaturated old o s).settings = s.settings ∧ (raiseSaturated old o s).xm = s.xm
      ∧ (raiseSaturated old o s).tickDue = s.tickDue ∧ (raiseSaturated old o s).pending = s.pending := by
  unfold raiseSaturated
  repeat' split
  all_goals simp

@[simp] theorem forAll_raiseSaturated_frame (old : Vector OutletMeter 48) (xs : List OutletIx) (s : State) :
    (forAll xs (raiseSaturated old) s).now = s.now ∧ (forAll xs (raiseSaturated old) s).resetHeld = s.resetHeld
      ∧ (forAll xs (raiseSaturated old) s).line = s.line ∧ (forAll xs (raiseSaturated old) s).meter = s.meter
      ∧ (forAll xs (raiseSaturated old) s).records = s.records ∧ (forAll xs (raiseSaturated old) s).relay = s.relay
      ∧ (forAll xs (raiseSaturated old) s).sched = s.sched ∧ (forAll xs (raiseSaturated old) s).plans = s.plans
      ∧ (forAll xs (raiseSaturated old) s).guard = s.guard ∧ (forAll xs (raiseSaturated old) s).watch = s.watch
      ∧ (forAll xs (raiseSaturated old) s).capture = s.capture ∧ (forAll xs (raiseSaturated old) s).port = s.port
      ∧ (forAll xs (raiseSaturated old) s).settings = s.settings ∧ (forAll xs (raiseSaturated old) s).xm = s.xm
      ∧ (forAll xs (raiseSaturated old) s).tickDue = s.tickDue
      ∧ (forAll xs (raiseSaturated old) s).pending = s.pending :=
  ⟨forAll_keeps State.now (fun _ _ => by simp) xs s,
    forAll_keeps State.resetHeld (fun _ _ => by simp) xs s,
    forAll_keeps State.line (fun _ _ => by simp) xs s,
    forAll_keeps State.meter (fun _ _ => by simp) xs s,
    forAll_keeps State.records (fun _ _ => by simp) xs s,
    forAll_keeps State.relay (fun _ _ => by simp) xs s,
    forAll_keeps State.sched (fun _ _ => by simp) xs s,
    forAll_keeps State.plans (fun _ _ => by simp) xs s,
    forAll_keeps State.guard (fun _ _ => by simp) xs s,
    forAll_keeps State.watch (fun _ _ => by simp) xs s,
    forAll_keeps State.capture (fun _ _ => by simp) xs s,
    forAll_keeps State.port (fun _ _ => by simp) xs s,
    forAll_keeps State.settings (fun _ _ => by simp) xs s,
    forAll_keeps State.xm (fun _ _ => by simp) xs s,
    forAll_keeps State.tickDue (fun _ _ => by simp) xs s,
    forAll_keeps State.pending (fun _ _ => by simp) xs s⟩

@[simp] theorem takeWindow_frame (s : State) :
    (takeWindow s).now = s.now ∧ (takeWindow s).resetHeld = s.resetHeld ∧ (takeWindow s).line = s.line
      ∧ (takeWindow s).records = s.records ∧ (takeWindow s).relay = s.relay ∧ (takeWindow s).sched = s.sched
      ∧ (takeWindow s).plans = s.plans ∧ (takeWindow s).guard = s.guard ∧ (takeWindow s).watch = s.watch
      ∧ (takeWindow s).capture = s.capture ∧ (takeWindow s).port = s.port ∧ (takeWindow s).settings = s.settings
      ∧ (takeWindow s).xm = s.xm ∧ (takeWindow s).tickDue = s.tickDue ∧ (takeWindow s).pending = s.pending := by
  unfold takeWindow
  dsimp only
  repeat' split
  all_goals simp

@[simp] theorem handOvercurrent_frame (o : OutletIx) (s : State) :
    (handOvercurrent o s).now = s.now ∧ (handOvercurrent o s).resetHeld = s.resetHeld
      ∧ (handOvercurrent o s).line = s.line ∧ (handOvercurrent o s).meter = s.meter
      ∧ (handOvercurrent o s).records = s.records ∧ (handOvercurrent o s).relay = s.relay
      ∧ (handOvercurrent o s).sched = s.sched ∧ (handOvercurrent o s).plans = s.plans
      ∧ (handOvercurrent o s).guard = s.guard ∧ (handOvercurrent o s).watch = s.watch
      ∧ (handOvercurrent o s).capture = s.capture ∧ (handOvercurrent o s).port = s.port
      ∧ (handOvercurrent o s).settings = s.settings ∧ (handOvercurrent o s).xm = s.xm
      ∧ (handOvercurrent o s).tickDue = s.tickDue ∧ (handOvercurrent o s).pending = s.pending := by
  simp [handOvercurrent]

@[simp] theorem forAll_handOvercurrent_frame (xs : List OutletIx) (s : State) :
    (forAll xs handOvercurrent s).now = s.now ∧ (forAll xs handOvercurrent s).resetHeld = s.resetHeld
      ∧ (forAll xs handOvercurrent s).line = s.line ∧ (forAll xs handOvercurrent s).meter = s.meter
      ∧ (forAll xs handOvercurrent s).records = s.records ∧ (forAll xs handOvercurrent s).relay = s.relay
      ∧ (forAll xs handOvercurrent s).sched = s.sched ∧ (forAll xs handOvercurrent s).plans = s.plans
      ∧ (forAll xs handOvercurrent s).guard = s.guard ∧ (forAll xs handOvercurrent s).watch = s.watch
      ∧ (forAll xs handOvercurrent s).capture = s.capture ∧ (forAll xs handOvercurrent s).port = s.port
      ∧ (forAll xs handOvercurrent s).settings = s.settings ∧ (forAll xs handOvercurrent s).xm = s.xm
      ∧ (forAll xs handOvercurrent s).tickDue = s.tickDue ∧ (forAll xs handOvercurrent s).pending = s.pending :=
  ⟨forAll_keeps State.now (fun _ _ => by simp) xs s,
    forAll_keeps State.resetHeld (fun _ _ => by simp) xs s,
    forAll_keeps State.line (fun _ _ => by simp) xs s,
    forAll_keeps State.meter (fun _ _ => by simp) xs s,
    forAll_keeps State.records (fun _ _ => by simp) xs s,
    forAll_keeps State.relay (fun _ _ => by simp) xs s,
    forAll_keeps State.sched (fun _ _ => by simp) xs s,
    forAll_keeps State.plans (fun _ _ => by simp) xs s,
    forAll_keeps State.guard (fun _ _ => by simp) xs s,
    forAll_keeps State.watch (fun _ _ => by simp) xs s,
    forAll_keeps State.capture (fun _ _ => by simp) xs s,
    forAll_keeps State.port (fun _ _ => by simp) xs s,
    forAll_keeps State.settings (fun _ _ => by simp) xs s,
    forAll_keeps State.xm (fun _ _ => by simp) xs s,
    forAll_keeps State.tickDue (fun _ _ => by simp) xs s,
    forAll_keeps State.pending (fun _ _ => by simp) xs s⟩

@[simp] theorem handVoltage_frame (p : PhaseIx) (s : State) :
    (handVoltage p s).now = s.now ∧ (handVoltage p s).resetHeld = s.resetHeld ∧ (handVoltage p s).line = s.line
      ∧ (handVoltage p s).meter = s.meter ∧ (handVoltage p s).records = s.records
      ∧ (handVoltage p s).relay = s.relay ∧ (handVoltage p s).sched = s.sched ∧ (handVoltage p s).plans = s.plans
      ∧ (handVoltage p s).guard = s.guard ∧ (handVoltage p s).watch = s.watch
      ∧ (handVoltage p s).capture = s.capture ∧ (handVoltage p s).port = s.port
      ∧ (handVoltage p s).settings = s.settings ∧ (handVoltage p s).xm = s.xm
      ∧ (handVoltage p s).tickDue = s.tickDue ∧ (handVoltage p s).pending = s.pending := by
  simp [handVoltage]

@[simp] theorem forAll_handVoltage_frame (xs : List PhaseIx) (s : State) :
    (forAll xs handVoltage s).now = s.now ∧ (forAll xs handVoltage s).resetHeld = s.resetHeld
      ∧ (forAll xs handVoltage s).line = s.line ∧ (forAll xs handVoltage s).meter = s.meter
      ∧ (forAll xs handVoltage s).records = s.records ∧ (forAll xs handVoltage s).relay = s.relay
      ∧ (forAll xs handVoltage s).sched = s.sched ∧ (forAll xs handVoltage s).plans = s.plans
      ∧ (forAll xs handVoltage s).guard = s.guard ∧ (forAll xs handVoltage s).watch = s.watch
      ∧ (forAll xs handVoltage s).capture = s.capture ∧ (forAll xs handVoltage s).port = s.port
      ∧ (forAll xs handVoltage s).settings = s.settings ∧ (forAll xs handVoltage s).xm = s.xm
      ∧ (forAll xs handVoltage s).tickDue = s.tickDue ∧ (forAll xs handVoltage s).pending = s.pending :=
  ⟨forAll_keeps State.now (fun _ _ => by simp) xs s,
    forAll_keeps State.resetHeld (fun _ _ => by simp) xs s,
    forAll_keeps State.line (fun _ _ => by simp) xs s,
    forAll_keeps State.meter (fun _ _ => by simp) xs s,
    forAll_keeps State.records (fun _ _ => by simp) xs s,
    forAll_keeps State.relay (fun _ _ => by simp) xs s,
    forAll_keeps State.sched (fun _ _ => by simp) xs s,
    forAll_keeps State.plans (fun _ _ => by simp) xs s,
    forAll_keeps State.guard (fun _ _ => by simp) xs s,
    forAll_keeps State.watch (fun _ _ => by simp) xs s,
    forAll_keeps State.capture (fun _ _ => by simp) xs s,
    forAll_keeps State.port (fun _ _ => by simp) xs s,
    forAll_keeps State.settings (fun _ _ => by simp) xs s,
    forAll_keeps State.xm (fun _ _ => by simp) xs s,
    forAll_keeps State.tickDue (fun _ _ => by simp) xs s,
    forAll_keeps State.pending (fun _ _ => by simp) xs s⟩

@[simp] theorem handNeutral_frame (s : State) :
    (handNeutral s).now = s.now ∧ (handNeutral s).resetHeld = s.resetHeld ∧ (handNeutral s).line = s.line
      ∧ (handNeutral s).meter = s.meter ∧ (handNeutral s).records = s.records ∧ (handNeutral s).relay = s.relay
      ∧ (handNeutral s).sched = s.sched ∧ (handNeutral s).plans = s.plans ∧ (handNeutral s).guard = s.guard
      ∧ (handNeutral s).watch = s.watch ∧ (handNeutral s).capture = s.capture ∧ (handNeutral s).port = s.port
      ∧ (handNeutral s).settings = s.settings ∧ (handNeutral s).xm = s.xm ∧ (handNeutral s).tickDue = s.tickDue
      ∧ (handNeutral s).pending = s.pending := by
  simp [handNeutral]

@[simp] theorem handLimits_frame (s : State) :
    (handLimits s).now = s.now ∧ (handLimits s).resetHeld = s.resetHeld ∧ (handLimits s).line = s.line
      ∧ (handLimits s).meter = s.meter ∧ (handLimits s).records = s.records ∧ (handLimits s).relay = s.relay
      ∧ (handLimits s).sched = s.sched ∧ (handLimits s).plans = s.plans ∧ (handLimits s).guard = s.guard
      ∧ (handLimits s).watch = s.watch ∧ (handLimits s).capture = s.capture ∧ (handLimits s).port = s.port
      ∧ (handLimits s).settings = s.settings ∧ (handLimits s).xm = s.xm ∧ (handLimits s).tickDue = s.tickDue
      ∧ (handLimits s).pending = s.pending := by
  simp [handLimits]

@[simp] theorem writeWh_frame (o : OutletIx) (s : State) :
    (writeWh o s).now = s.now ∧ (writeWh o s).resetHeld = s.resetHeld ∧ (writeWh o s).line = s.line
      ∧ (writeWh o s).meter = s.meter ∧ (writeWh o s).relay = s.relay ∧ (writeWh o s).sched = s.sched
      ∧ (writeWh o s).plans = s.plans ∧ (writeWh o s).guard = s.guard ∧ (writeWh o s).watch = s.watch
      ∧ (writeWh o s).capture = s.capture ∧ (writeWh o s).notices = s.notices ∧ (writeWh o s).port = s.port
      ∧ (writeWh o s).settings = s.settings ∧ (writeWh o s).xm = s.xm ∧ (writeWh o s).tickDue = s.tickDue
      ∧ (writeWh o s).pending = s.pending := by
  simp [writeWh]

@[simp] theorem runDeferred_frame (d : DeferredWrite) (s : State) :
    (runDeferred d s).now = s.now ∧ (runDeferred d s).resetHeld = s.resetHeld ∧ (runDeferred d s).line = s.line
      ∧ (runDeferred d s).meter = s.meter ∧ (runDeferred d s).relay = s.relay ∧ (runDeferred d s).sched = s.sched
      ∧ (runDeferred d s).plans = s.plans ∧ (runDeferred d s).guard = s.guard ∧ (runDeferred d s).watch = s.watch
      ∧ (runDeferred d s).capture = s.capture ∧ (runDeferred d s).notices = s.notices
      ∧ (runDeferred d s).port = s.port ∧ (runDeferred d s).settings = s.settings ∧ (runDeferred d s).xm = s.xm
      ∧ (runDeferred d s).tickDue = s.tickDue ∧ (runDeferred d s).pending = s.pending := by
  cases d <;> simp [runDeferred]

@[simp] theorem forAll_runDeferred_frame (xs : List DeferredWrite) (s : State) :
    (forAll xs runDeferred s).now = s.now ∧ (forAll xs runDeferred s).resetHeld = s.resetHeld
      ∧ (forAll xs runDeferred s).line = s.line ∧ (forAll xs runDeferred s).meter = s.meter
      ∧ (forAll xs runDeferred s).relay = s.relay ∧ (forAll xs runDeferred s).sched = s.sched
      ∧ (forAll xs runDeferred s).plans = s.plans ∧ (forAll xs runDeferred s).guard = s.guard
      ∧ (forAll xs runDeferred s).watch = s.watch ∧ (forAll xs runDeferred s).capture = s.capture
      ∧ (forAll xs runDeferred s).notices = s.notices ∧ (forAll xs runDeferred s).port = s.port
      ∧ (forAll xs runDeferred s).settings = s.settings ∧ (forAll xs runDeferred s).xm = s.xm
      ∧ (forAll xs runDeferred s).tickDue = s.tickDue ∧ (forAll xs runDeferred s).pending = s.pending :=
  ⟨forAll_keeps State.now (fun _ _ => by simp) xs s,
    forAll_keeps State.resetHeld (fun _ _ => by simp) xs s,
    forAll_keeps State.line (fun _ _ => by simp) xs s,
    forAll_keeps State.meter (fun _ _ => by simp) xs s,
    forAll_keeps State.relay (fun _ _ => by simp) xs s,
    forAll_keeps State.sched (fun _ _ => by simp) xs s,
    forAll_keeps State.plans (fun _ _ => by simp) xs s,
    forAll_keeps State.guard (fun _ _ => by simp) xs s,
    forAll_keeps State.watch (fun _ _ => by simp) xs s,
    forAll_keeps State.capture (fun _ _ => by simp) xs s,
    forAll_keeps State.notices (fun _ _ => by simp) xs s,
    forAll_keeps State.port (fun _ _ => by simp) xs s,
    forAll_keeps State.settings (fun _ _ => by simp) xs s,
    forAll_keeps State.xm (fun _ _ => by simp) xs s,
    forAll_keeps State.tickDue (fun _ _ => by simp) xs s,
    forAll_keeps State.pending (fun _ _ => by simp) xs s⟩

/-- What half-brackets do to each record (R40). -/
@[simp] theorem publishHalves_records (a b : Nat) (m : Meter) (present : Vector Bool 3) (r : Records) :
    (publishHalves a b m present r).strip = publishStrip a b m r.strip
      ∧ (∀ p : PhaseIx, (publishHalves a b m present r).phases[p] = publishPhase a b m present[p] p r.phases[p])
      ∧ (∀ i : BranchIx, (publishHalves a b m present r).branches[i] = publishBranch a b m i r.branches[i])
      ∧ (∀ o : OutletIx, (publishHalves a b m present r).outlets[o] = publishOutlet a b m o r.outlets[o])
      ∧ (publishHalves a b m present r).turn = b ∧ (publishHalves a b m present r).finishBy = r.finishBy
      ∧ (publishHalves a b m present r).deferred = r.deferred := by
  simp [publishHalves]

/-- Everything a count of the reference clock can do to a publication (R40). -/
theorem publishNext_cases (s : State) :
    (s.records.finishBy ≠ none ∧ s.records.turn < Config.publicationHalves
        ∧ (publishNext s).records = publishHalves s.records.turn (s.records.turn + 1) s.meter s.line.present s.records)
      ∨ ((s.records.finishBy = none ∨ Config.publicationHalves ≤ s.records.turn) ∧ publishNext s = s) := by
  unfold publishNext
  split
  · next h => exact .inl ⟨fun hn => by simp [hn] at h, h.2, rfl⟩
  · next h =>
    refine .inr ⟨?_, rfl⟩
    cases hf : s.records.finishBy with
    | none => exact .inl rfl
    | some d => exact .inr (Nat.le_of_not_lt fun hlt => h ⟨by simp [hf], hlt⟩)

@[simp] theorem publishNext_frame (s : State) :
    (publishNext s).now = s.now ∧ (publishNext s).resetHeld = s.resetHeld ∧ (publishNext s).line = s.line
      ∧ (publishNext s).meter = s.meter ∧ (publishNext s).relay = s.relay
      ∧ (publishNext s).sched = s.sched ∧ (publishNext s).plans = s.plans
      ∧ (publishNext s).guard = s.guard ∧ (publishNext s).watch = s.watch
      ∧ (publishNext s).capture = s.capture ∧ (publishNext s).notices = s.notices
      ∧ (publishNext s).port = s.port ∧ (publishNext s).settings = s.settings ∧ (publishNext s).xm = s.xm
      ∧ (publishNext s).tickDue = s.tickDue ∧ (publishNext s).pending = s.pending := by
  unfold publishNext
  split
  all_goals simp

@[simp] theorem finishPublication_frame (s : State) :
    (finishPublication s).now = s.now ∧ (finishPublication s).resetHeld = s.resetHeld
      ∧ (finishPublication s).line = s.line ∧ (finishPublication s).meter = s.meter
      ∧ (finishPublication s).relay = s.relay ∧ (finishPublication s).sched = s.sched
      ∧ (finishPublication s).plans = s.plans ∧ (finishPublication s).guard = s.guard
      ∧ (finishPublication s).watch = s.watch ∧ (finishPublication s).capture = s.capture
      ∧ (finishPublication s).notices = s.notices ∧ (finishPublication s).port = s.port
      ∧ (finishPublication s).settings = s.settings ∧ (finishPublication s).xm = s.xm
      ∧ (finishPublication s).tickDue = s.tickDue ∧ (finishPublication s).pending = s.pending := by
  unfold finishPublication
  repeat' split
  all_goals simp

@[simp] theorem startPublication_frame (s : State) :
    (startPublication s).now = s.now ∧ (startPublication s).resetHeld = s.resetHeld
      ∧ (startPublication s).line = s.line ∧ (startPublication s).meter = s.meter
      ∧ (startPublication s).relay = s.relay ∧ (startPublication s).sched = s.sched
      ∧ (startPublication s).plans = s.plans ∧ (startPublication s).guard = s.guard
      ∧ (startPublication s).watch = s.watch ∧ (startPublication s).capture = s.capture
      ∧ (startPublication s).notices = s.notices ∧ (startPublication s).port = s.port
      ∧ (startPublication s).settings = s.settings ∧ (startPublication s).xm = s.xm
      ∧ (startPublication s).tickDue = s.tickDue ∧ (startPublication s).pending = s.pending := by
  simp [startPublication]

@[simp] theorem publishClear_frame (o : OutletIx) (s : State) :
    (publishClear o s).now = s.now ∧ (publishClear o s).resetHeld = s.resetHeld ∧ (publishClear o s).line = s.line
      ∧ (publishClear o s).meter = s.meter ∧ (publishClear o s).relay = s.relay
      ∧ (publishClear o s).sched = s.sched ∧ (publishClear o s).plans = s.plans
      ∧ (publishClear o s).guard = s.guard ∧ (publishClear o s).watch = s.watch
      ∧ (publishClear o s).capture = s.capture ∧ (publishClear o s).notices = s.notices
      ∧ (publishClear o s).port = s.port ∧ (publishClear o s).settings = s.settings ∧ (publishClear o s).xm = s.xm
      ∧ (publishClear o s).tickDue = s.tickDue ∧ (publishClear o s).pending = s.pending := by
  unfold publishClear
  repeat' split
  all_goals simp

@[simp] theorem clearOutletEnergy_frame (o : OutletIx) (s : State) :
    (clearOutletEnergy o s).now = s.now ∧ (clearOutletEnergy o s).resetHeld = s.resetHeld
      ∧ (clearOutletEnergy o s).line = s.line ∧ (clearOutletEnergy o s).relay = s.relay
      ∧ (clearOutletEnergy o s).sched = s.sched ∧ (clearOutletEnergy o s).plans = s.plans
      ∧ (clearOutletEnergy o s).guard = s.guard ∧ (clearOutletEnergy o s).watch = s.watch
      ∧ (clearOutletEnergy o s).capture = s.capture ∧ (clearOutletEnergy o s).notices = s.notices
      ∧ (clearOutletEnergy o s).port = s.port ∧ (clearOutletEnergy o s).settings = s.settings
      ∧ (clearOutletEnergy o s).xm = s.xm ∧ (clearOutletEnergy o s).tickDue = s.tickDue
      ∧ (clearOutletEnergy o s).pending = s.pending := by
  simp [clearOutletEnergy]

@[simp] theorem forAll_clearOutletEnergy_frame (xs : List OutletIx) (s : State) :
    (forAll xs clearOutletEnergy s).now = s.now ∧ (forAll xs clearOutletEnergy s).resetHeld = s.resetHeld
      ∧ (forAll xs clearOutletEnergy s).line = s.line ∧ (forAll xs clearOutletEnergy s).relay = s.relay
      ∧ (forAll xs clearOutletEnergy s).sched = s.sched ∧ (forAll xs clearOutletEnergy s).plans = s.plans
      ∧ (forAll xs clearOutletEnergy s).guard = s.guard ∧ (forAll xs clearOutletEnergy s).watch = s.watch
      ∧ (forAll xs clearOutletEnergy s).capture = s.capture ∧ (forAll xs clearOutletEnergy s).notices = s.notices
      ∧ (forAll xs clearOutletEnergy s).port = s.port ∧ (forAll xs clearOutletEnergy s).settings = s.settings
      ∧ (forAll xs clearOutletEnergy s).xm = s.xm ∧ (forAll xs clearOutletEnergy s).tickDue = s.tickDue
      ∧ (forAll xs clearOutletEnergy s).pending = s.pending :=
  ⟨forAll_keeps State.now (fun _ _ => by simp) xs s,
    forAll_keeps State.resetHeld (fun _ _ => by simp) xs s,
    forAll_keeps State.line (fun _ _ => by simp) xs s,
    forAll_keeps State.relay (fun _ _ => by simp) xs s,
    forAll_keeps State.sched (fun _ _ => by simp) xs s,
    forAll_keeps State.plans (fun _ _ => by simp) xs s,
    forAll_keeps State.guard (fun _ _ => by simp) xs s,
    forAll_keeps State.watch (fun _ _ => by simp) xs s,
    forAll_keeps State.capture (fun _ _ => by simp) xs s,
    forAll_keeps State.notices (fun _ _ => by simp) xs s,
    forAll_keeps State.port (fun _ _ => by simp) xs s,
    forAll_keeps State.settings (fun _ _ => by simp) xs s,
    forAll_keeps State.xm (fun _ _ => by simp) xs s,
    forAll_keeps State.tickDue (fun _ _ => by simp) xs s,
    forAll_keeps State.pending (fun _ _ => by simp) xs s⟩


/-! ### LineOps -/

@[simp] theorem handStale_frame (s : State) :
    (handStale s).now = s.now ∧ (handStale s).resetHeld = s.resetHeld ∧ (handStale s).line = s.line
      ∧ (handStale s).meter = s.meter ∧ (handStale s).records = s.records ∧ (handStale s).relay = s.relay
      ∧ (handStale s).sched = s.sched ∧ (handStale s).plans = s.plans ∧ (handStale s).guard = s.guard
      ∧ (handStale s).watch = s.watch ∧ (handStale s).capture = s.capture ∧ (handStale s).port = s.port
      ∧ (handStale s).settings = s.settings ∧ (handStale s).xm = s.xm ∧ (handStale s).tickDue = s.tickDue
      ∧ (handStale s).pending = s.pending := by
  simp [handStale]

@[simp] theorem handStaleChange_frame (was : Bool) (s : State) :
    (handStaleChange was s).now = s.now ∧ (handStaleChange was s).resetHeld = s.resetHeld
      ∧ (handStaleChange was s).line = s.line ∧ (handStaleChange was s).meter = s.meter
      ∧ (handStaleChange was s).records = s.records ∧ (handStaleChange was s).relay = s.relay
      ∧ (handStaleChange was s).sched = s.sched ∧ (handStaleChange was s).plans = s.plans
      ∧ (handStaleChange was s).guard = s.guard ∧ (handStaleChange was s).watch = s.watch
      ∧ (handStaleChange was s).capture = s.capture ∧ (handStaleChange was s).port = s.port
      ∧ (handStaleChange was s).settings = s.settings ∧ (handStaleChange was s).xm = s.xm
      ∧ (handStaleChange was s).tickDue = s.tickDue ∧ (handStaleChange was s).pending = s.pending := by
  unfold handStaleChange
  split
  all_goals simp

@[simp] theorem missSlot_frame (s : State) :
    (missSlot s).now = s.now ∧ (missSlot s).resetHeld = s.resetHeld ∧ (missSlot s).meter = s.meter
      ∧ (missSlot s).records = s.records ∧ (missSlot s).relay = s.relay ∧ (missSlot s).sched = s.sched
      ∧ (missSlot s).plans = s.plans ∧ (missSlot s).guard = s.guard ∧ (missSlot s).watch = s.watch
      ∧ (missSlot s).port = s.port ∧ (missSlot s).settings = s.settings ∧ (missSlot s).xm = s.xm
      ∧ (missSlot s).tickDue = s.tickDue ∧ (missSlot s).pending = s.pending := by
  unfold missSlot
  repeat' split
  all_goals simp

@[simp] theorem completeInFlight_frame (f : InFlight) (v : SampleSet) (sense : BitVec 48) (s : State) :
    (completeInFlight f v sense s).now = s.now ∧ (completeInFlight f v sense s).resetHeld = s.resetHeld
      ∧ (completeInFlight f v sense s).port = s.port ∧ (completeInFlight f v sense s).settings = s.settings
      ∧ (completeInFlight f v sense s).tickDue = s.tickDue ∧ (completeInFlight f v sense s).pending = s.pending := by
  simp [completeInFlight]

@[simp] theorem takeSamples_frame (v : SampleSet) (sense : BitVec 48) (s : State) :
    (takeSamples v sense s).now = s.now ∧ (takeSamples v sense s).resetHeld = s.resetHeld
      ∧ (takeSamples v sense s).port = s.port ∧ (takeSamples v sense s).settings = s.settings
      ∧ (takeSamples v sense s).tickDue = s.tickDue ∧ (takeSamples v sense s).pending = s.pending := by
  unfold takeSamples
  repeat' split
  all_goals simp

@[simp] theorem openSlot_frame (k : SlotIx) (startAt : Nat) (s : State) :
    (openSlot k startAt s).now = s.now ∧ (openSlot k startAt s).resetHeld = s.resetHeld
      ∧ (openSlot k startAt s).meter = s.meter ∧ (openSlot k startAt s).records = s.records
      ∧ (openSlot k startAt s).sched = s.sched ∧ (openSlot k startAt s).plans = s.plans
      ∧ (openSlot k startAt s).guard = s.guard ∧ (openSlot k startAt s).watch = s.watch
      ∧ (openSlot k startAt s).notices = s.notices ∧ (openSlot k startAt s).port = s.port
      ∧ (openSlot k startAt s).settings = s.settings ∧ (openSlot k startAt s).xm = s.xm
      ∧ (openSlot k startAt s).tickDue = s.tickDue ∧ (openSlot k startAt s).pending = s.pending := by
  unfold openSlot
  dsimp only
  repeat' split
  all_goals simp

@[simp] theorem startSlot_frame (k : SlotIx) (s : State) :
    (startSlot k s).now = s.now ∧ (startSlot k s).resetHeld = s.resetHeld ∧ (startSlot k s).meter = s.meter
      ∧ (startSlot k s).records = s.records ∧ (startSlot k s).sched = s.sched ∧ (startSlot k s).plans = s.plans
      ∧ (startSlot k s).guard = s.guard ∧ (startSlot k s).watch = s.watch ∧ (startSlot k s).port = s.port
      ∧ (startSlot k s).settings = s.settings ∧ (startSlot k s).xm = s.xm ∧ (startSlot k s).tickDue = s.tickDue
      ∧ (startSlot k s).pending = s.pending := by
  simp [startSlot]

@[simp] theorem startCycle_frame (k : CycleKind) (startAt : Nat) (s : State) :
    (startCycle k startAt s).now = s.now ∧ (startCycle k startAt s).resetHeld = s.resetHeld
      ∧ (startCycle k startAt s).meter = s.meter ∧ (startCycle k startAt s).records = s.records
      ∧ (startCycle k startAt s).sched = s.sched ∧ (startCycle k startAt s).plans = s.plans
      ∧ (startCycle k startAt s).guard = s.guard ∧ (startCycle k startAt s).watch = s.watch
      ∧ (startCycle k startAt s).port = s.port ∧ (startCycle k startAt s).settings = s.settings
      ∧ (startCycle k startAt s).xm = s.xm ∧ (startCycle k startAt s).tickDue = s.tickDue
      ∧ (startCycle k startAt s).pending = s.pending := by
  simp [startCycle]

@[simp] theorem followCycle_frame (k : CycleKind) (s : State) :
    (followCycle k s).now = s.now ∧ (followCycle k s).resetHeld = s.resetHeld ∧ (followCycle k s).meter = s.meter
      ∧ (followCycle k s).records = s.records ∧ (followCycle k s).sched = s.sched
      ∧ (followCycle k s).plans = s.plans ∧ (followCycle k s).guard = s.guard ∧ (followCycle k s).watch = s.watch
      ∧ (followCycle k s).port = s.port ∧ (followCycle k s).settings = s.settings ∧ (followCycle k s).xm = s.xm
      ∧ (followCycle k s).tickDue = s.tickDue ∧ (followCycle k s).pending = s.pending := by
  simp [followCycle]

@[simp] theorem evaluatePresence_frame (s : State) :
    (evaluatePresence s).now = s.now ∧ (evaluatePresence s).resetHeld = s.resetHeld
      ∧ (evaluatePresence s).meter = s.meter ∧ (evaluatePresence s).records = s.records
      ∧ (evaluatePresence s).relay = s.relay ∧ (evaluatePresence s).sched = s.sched
      ∧ (evaluatePresence s).plans = s.plans ∧ (evaluatePresence s).guard = s.guard
      ∧ (evaluatePresence s).watch = s.watch ∧ (evaluatePresence s).capture = s.capture
      ∧ (evaluatePresence s).notices = s.notices ∧ (evaluatePresence s).port = s.port
      ∧ (evaluatePresence s).settings = s.settings ∧ (evaluatePresence s).xm = s.xm
      ∧ (evaluatePresence s).tickDue = s.tickDue ∧ (evaluatePresence s).pending = s.pending := by
  simp [evaluatePresence]

@[simp] theorem handPresence_frame (p : PhaseIx) (s : State) :
    (handPresence p s).now = s.now ∧ (handPresence p s).resetHeld = s.resetHeld ∧ (handPresence p s).line = s.line
      ∧ (handPresence p s).meter = s.meter ∧ (handPresence p s).records = s.records
      ∧ (handPresence p s).relay = s.relay ∧ (handPresence p s).sched = s.sched
      ∧ (handPresence p s).plans = s.plans ∧ (handPresence p s).guard = s.guard
      ∧ (handPresence p s).watch = s.watch ∧ (handPresence p s).capture = s.capture
      ∧ (handPresence p s).port = s.port ∧ (handPresence p s).settings = s.settings ∧ (handPresence p s).xm = s.xm
      ∧ (handPresence p s).tickDue = s.tickDue ∧ (handPresence p s).pending = s.pending := by
  simp [handPresence]

@[simp] theorem forAll_handPresence_frame (xs : List PhaseIx) (s : State) :
    (forAll xs handPresence s).now = s.now ∧ (forAll xs handPresence s).resetHeld = s.resetHeld
      ∧ (forAll xs handPresence s).line = s.line ∧ (forAll xs handPresence s).meter = s.meter
      ∧ (forAll xs handPresence s).records = s.records ∧ (forAll xs handPresence s).relay = s.relay
      ∧ (forAll xs handPresence s).sched = s.sched ∧ (forAll xs handPresence s).plans = s.plans
      ∧ (forAll xs handPresence s).guard = s.guard ∧ (forAll xs handPresence s).watch = s.watch
      ∧ (forAll xs handPresence s).capture = s.capture ∧ (forAll xs handPresence s).port = s.port
      ∧ (forAll xs handPresence s).settings = s.settings ∧ (forAll xs handPresence s).xm = s.xm
      ∧ (forAll xs handPresence s).tickDue = s.tickDue ∧ (forAll xs handPresence s).pending = s.pending :=
  ⟨forAll_keeps State.now (fun _ _ => by simp) xs s,
    forAll_keeps State.resetHeld (fun _ _ => by simp) xs s,
    forAll_keeps State.line (fun _ _ => by simp) xs s,
    forAll_keeps State.meter (fun _ _ => by simp) xs s,
    forAll_keeps State.records (fun _ _ => by simp) xs s,
    forAll_keeps State.relay (fun _ _ => by simp) xs s,
    forAll_keeps State.sched (fun _ _ => by simp) xs s,
    forAll_keeps State.plans (fun _ _ => by simp) xs s,
    forAll_keeps State.guard (fun _ _ => by simp) xs s,
    forAll_keeps State.watch (fun _ _ => by simp) xs s,
    forAll_keeps State.capture (fun _ _ => by simp) xs s,
    forAll_keeps State.port (fun _ _ => by simp) xs s,
    forAll_keeps State.settings (fun _ _ => by simp) xs s,
    forAll_keeps State.xm (fun _ _ => by simp) xs s,
    forAll_keeps State.tickDue (fun _ _ => by simp) xs s,
    forAll_keeps State.pending (fun _ _ => by simp) xs s⟩

@[simp] theorem handHoldover_frame (s : State) :
    (handHoldover s).now = s.now ∧ (handHoldover s).resetHeld = s.resetHeld ∧ (handHoldover s).line = s.line
      ∧ (handHoldover s).meter = s.meter ∧ (handHoldover s).records = s.records ∧ (handHoldover s).relay = s.relay
      ∧ (handHoldover s).sched = s.sched ∧ (handHoldover s).plans = s.plans ∧ (handHoldover s).guard = s.guard
      ∧ (handHoldover s).watch = s.watch ∧ (handHoldover s).capture = s.capture ∧ (handHoldover s).port = s.port
      ∧ (handHoldover s).settings = s.settings ∧ (handHoldover s).xm = s.xm ∧ (handHoldover s).tickDue = s.tickDue
      ∧ (handHoldover s).pending = s.pending := by
  simp [handHoldover]

@[simp] theorem openWindow_frame (s : State) :
    (openWindow s).now = s.now ∧ (openWindow s).resetHeld = s.resetHeld ∧ (openWindow s).meter = s.meter
      ∧ (openWindow s).records = s.records ∧ (openWindow s).relay = s.relay ∧ (openWindow s).sched = s.sched
      ∧ (openWindow s).plans = s.plans ∧ (openWindow s).guard = s.guard ∧ (openWindow s).watch = s.watch
      ∧ (openWindow s).capture = s.capture ∧ (openWindow s).notices = s.notices ∧ (openWindow s).port = s.port
      ∧ (openWindow s).settings = s.settings ∧ (openWindow s).xm = s.xm ∧ (openWindow s).tickDue = s.tickDue
      ∧ (openWindow s).pending = s.pending := by
  simp [openWindow]

@[simp] theorem closeWindow_frame (s : State) :
    (closeWindow s).now = s.now ∧ (closeWindow s).resetHeld = s.resetHeld ∧ (closeWindow s).capture = s.capture
      ∧ (closeWindow s).port = s.port ∧ (closeWindow s).settings = s.settings ∧ (closeWindow s).xm = s.xm
      ∧ (closeWindow s).tickDue = s.tickDue ∧ (closeWindow s).pending = s.pending := by
  simp [closeWindow]

@[simp] theorem closeIfPending_frame (s : State) :
    (closeIfPending s).now = s.now ∧ (closeIfPending s).resetHeld = s.resetHeld
      ∧ (closeIfPending s).capture = s.capture ∧ (closeIfPending s).port = s.port
      ∧ (closeIfPending s).settings = s.settings ∧ (closeIfPending s).xm = s.xm
      ∧ (closeIfPending s).tickDue = s.tickDue ∧ (closeIfPending s).pending = s.pending := by
  unfold closeIfPending
  repeat' split
  all_goals simp

@[simp] theorem enterHoldover_frame (s : State) :
    (enterHoldover s).now = s.now ∧ (enterHoldover s).resetHeld = s.resetHeld
      ∧ (enterHoldover s).capture = s.capture ∧ (enterHoldover s).port = s.port
      ∧ (enterHoldover s).settings = s.settings ∧ (enterHoldover s).xm = s.xm
      ∧ (enterHoldover s).tickDue = s.tickDue ∧ (enterHoldover s).pending = s.pending := by
  simp [enterHoldover]

@[simp] theorem enterLocked_frame (c : Nat) (s : State) :
    (enterLocked c s).now = s.now ∧ (enterLocked c s).resetHeld = s.resetHeld ∧ (enterLocked c s).meter = s.meter
      ∧ (enterLocked c s).records = s.records ∧ (enterLocked c s).sched = s.sched
      ∧ (enterLocked c s).plans = s.plans ∧ (enterLocked c s).guard = s.guard ∧ (enterLocked c s).watch = s.watch
      ∧ (enterLocked c s).port = s.port ∧ (enterLocked c s).settings = s.settings ∧ (enterLocked c s).xm = s.xm
      ∧ (enterLocked c s).tickDue = s.tickDue ∧ (enterLocked c s).pending = s.pending := by
  simp [enterLocked]

@[simp] theorem acceptEdge_frame (c : Nat) (s : State) :
    (acceptEdge c s).now = s.now ∧ (acceptEdge c s).resetHeld = s.resetHeld ∧ (acceptEdge c s).port = s.port
      ∧ (acceptEdge c s).settings = s.settings ∧ (acceptEdge c s).xm = s.xm ∧ (acceptEdge c s).tickDue = s.tickDue
      ∧ (acceptEdge c s).pending = s.pending := by
  simp [acceptEdge]

@[simp] theorem searchingCandidate_frame (c : Nat) (s : State) :
    (searchingCandidate c s).now = s.now ∧ (searchingCandidate c s).resetHeld = s.resetHeld
      ∧ (searchingCandidate c s).meter = s.meter ∧ (searchingCandidate c s).records = s.records
      ∧ (searchingCandidate c s).sched = s.sched ∧ (searchingCandidate c s).plans = s.plans
      ∧ (searchingCandidate c s).guard = s.guard ∧ (searchingCandidate c s).watch = s.watch
      ∧ (searchingCandidate c s).port = s.port ∧ (searchingCandidate c s).settings = s.settings
      ∧ (searchingCandidate c s).xm = s.xm ∧ (searchingCandidate c s).tickDue = s.tickDue
      ∧ (searchingCandidate c s).pending = s.pending := by
  unfold searchingCandidate
  dsimp only
  repeat' split
  all_goals simp

@[simp] theorem holdoverCandidate_frame (c : Nat) (s : State) :
    (holdoverCandidate c s).now = s.now ∧ (holdoverCandidate c s).resetHeld = s.resetHeld
      ∧ (holdoverCandidate c s).meter = s.meter ∧ (holdoverCandidate c s).records = s.records
      ∧ (holdoverCandidate c s).sched = s.sched ∧ (holdoverCandidate c s).plans = s.plans
      ∧ (holdoverCandidate c s).guard = s.guard ∧ (holdoverCandidate c s).watch = s.watch
      ∧ (holdoverCandidate c s).port = s.port ∧ (holdoverCandidate c s).settings = s.settings
      ∧ (holdoverCandidate c s).xm = s.xm ∧ (holdoverCandidate c s).tickDue = s.tickDue
      ∧ (holdoverCandidate c s).pending = s.pending := by
  unfold holdoverCandidate
  repeat' split
  all_goals simp

@[simp] theorem acceptCandidate_frame (c : Nat) (s : State) :
    (acceptCandidate c s).now = s.now ∧ (acceptCandidate c s).resetHeld = s.resetHeld
      ∧ (acceptCandidate c s).port = s.port ∧ (acceptCandidate c s).settings = s.settings
      ∧ (acceptCandidate c s).xm = s.xm ∧ (acceptCandidate c s).tickDue = s.tickDue
      ∧ (acceptCandidate c s).pending = s.pending := by
  unfold acceptCandidate
  dsimp only
  repeat' split
  all_goals simp

@[simp] theorem rejectCandidate_frame (s : State) :
    (rejectCandidate s).now = s.now ∧ (rejectCandidate s).resetHeld = s.resetHeld
      ∧ (rejectCandidate s).capture = s.capture ∧ (rejectCandidate s).port = s.port
      ∧ (rejectCandidate s).settings = s.settings ∧ (rejectCandidate s).xm = s.xm
      ∧ (rejectCandidate s).tickDue = s.tickDue ∧ (rejectCandidate s).pending = s.pending := by
  unfold rejectCandidate
  dsimp only
  repeat' split
  all_goals simp

@[simp] theorem takeCandidate_frame (c : Nat) (s : State) :
    (takeCandidate c s).now = s.now ∧ (takeCandidate c s).resetHeld = s.resetHeld
      ∧ (takeCandidate c s).port = s.port ∧ (takeCandidate c s).settings = s.settings
      ∧ (takeCandidate c s).xm = s.xm ∧ (takeCandidate c s).tickDue = s.tickDue
      ∧ (takeCandidate c s).pending = s.pending := by
  unfold takeCandidate
  repeat' split
  all_goals simp

@[simp] theorem takeEdge_frame (s : State) :
    (takeEdge s).now = s.now ∧ (takeEdge s).resetHeld = s.resetHeld ∧ (takeEdge s).port = s.port
      ∧ (takeEdge s).settings = s.settings ∧ (takeEdge s).xm = s.xm ∧ (takeEdge s).tickDue = s.tickDue
      ∧ (takeEdge s).pending = s.pending := by
  unfold takeEdge
  repeat' split
  all_goals simp

@[simp] theorem countSecond_frame (s : State) :
    (countSecond s).now = s.now ∧ (countSecond s).resetHeld = s.resetHeld ∧ (countSecond s).meter = s.meter
      ∧ (countSecond s).records = s.records ∧ (countSecond s).relay = s.relay ∧ (countSecond s).sched = s.sched
      ∧ (countSecond s).plans = s.plans ∧ (countSecond s).guard = s.guard ∧ (countSecond s).watch = s.watch
      ∧ (countSecond s).capture = s.capture ∧ (countSecond s).notices = s.notices ∧ (countSecond s).port = s.port
      ∧ (countSecond s).settings = s.settings ∧ (countSecond s).xm = s.xm ∧ (countSecond s).tickDue = s.tickDue
      ∧ (countSecond s).pending = s.pending := by
  simp [countSecond]

@[simp] theorem tickWindow_frame (s : State) :
    (tickWindow s).now = s.now ∧ (tickWindow s).resetHeld = s.resetHeld ∧ (tickWindow s).capture = s.capture
      ∧ (tickWindow s).port = s.port ∧ (tickWindow s).settings = s.settings ∧ (tickWindow s).xm = s.xm
      ∧ (tickWindow s).pending = s.pending := by
  unfold tickWindow
  repeat' split
  all_goals simp

@[simp] theorem takeTick_frame (s : State) :
    (takeTick s).now = s.now ∧ (takeTick s).resetHeld = s.resetHeld ∧ (takeTick s).capture = s.capture
      ∧ (takeTick s).port = s.port ∧ (takeTick s).settings = s.settings ∧ (takeTick s).xm = s.xm
      ∧ (takeTick s).pending = s.pending := by
  simp [takeTick]


/-! ### ApplyOps -/

@[simp] theorem tookService_frame (w : ServiceWord) (r : ServiceResult) (s : State) :
    (tookService w r s).now = s.now ∧ (tookService w r s).resetHeld = s.resetHeld
      ∧ (tookService w r s).line = s.line ∧ (tookService w r s).meter = s.meter
      ∧ (tookService w r s).records = s.records ∧ (tookService w r s).relay = s.relay
      ∧ (tookService w r s).sched = s.sched ∧ (tookService w r s).plans = s.plans
      ∧ (tookService w r s).guard = s.guard ∧ (tookService w r s).watch = s.watch
      ∧ (tookService w r s).capture = s.capture ∧ (tookService w r s).notices = s.notices
      ∧ (tookService w r s).settings = s.settings ∧ (tookService w r s).xm = s.xm
      ∧ (tookService w r s).tickDue = s.tickDue ∧ (tookService w r s).pending = s.pending := by
  unfold tookService
  repeat' split
  all_goals simp

@[simp] theorem installOutlet_frame (o : OutletIx) (s : State) :
    (installOutlet o s).now = s.now ∧ (installOutlet o s).resetHeld = s.resetHeld
      ∧ (installOutlet o s).line = s.line ∧ (installOutlet o s).meter = s.meter
      ∧ (installOutlet o s).records = s.records ∧ (installOutlet o s).relay = s.relay
      ∧ (installOutlet o s).sched = s.sched ∧ (installOutlet o s).plans = s.plans
      ∧ (installOutlet o s).guard = s.guard ∧ (installOutlet o s).watch = s.watch
      ∧ (installOutlet o s).capture = s.capture ∧ (installOutlet o s).notices = s.notices
      ∧ (installOutlet o s).xm = s.xm ∧ (installOutlet o s).tickDue = s.tickDue
      ∧ (installOutlet o s).pending = s.pending := by
  simp [installOutlet]

@[simp] theorem outletPass_frame (o : OutletIx) (old : OutletSettings) (s : State) :
    (outletPass o old s).now = s.now ∧ (outletPass o old s).resetHeld = s.resetHeld
      ∧ (outletPass o old s).line = s.line ∧ (outletPass o old s).guard = s.guard
      ∧ (outletPass o old s).watch = s.watch ∧ (outletPass o old s).capture = s.capture
      ∧ (outletPass o old s).notices = s.notices ∧ (outletPass o old s).port = s.port
      ∧ (outletPass o old s).settings = s.settings ∧ (outletPass o old s).xm = s.xm
      ∧ (outletPass o old s).tickDue = s.tickDue ∧ (outletPass o old s).pending = s.pending := by
  unfold outletPass
  repeat' split
  all_goals simp

@[simp] theorem applyOutlet_frame (o : OutletIx) (s : State) :
    (applyOutlet o s).now = s.now ∧ (applyOutlet o s).resetHeld = s.resetHeld ∧ (applyOutlet o s).line = s.line
      ∧ (applyOutlet o s).guard = s.guard ∧ (applyOutlet o s).capture = s.capture ∧ (applyOutlet o s).xm = s.xm
      ∧ (applyOutlet o s).tickDue = s.tickDue ∧ (applyOutlet o s).pending = s.pending := by
  simp [applyOutlet]

@[simp] theorem installBranch_frame (b : BranchIx) (s : State) :
    (installBranch b s).now = s.now ∧ (installBranch b s).resetHeld = s.resetHeld
      ∧ (installBranch b s).line = s.line ∧ (installBranch b s).meter = s.meter
      ∧ (installBranch b s).records = s.records ∧ (installBranch b s).relay = s.relay
      ∧ (installBranch b s).sched = s.sched ∧ (installBranch b s).plans = s.plans
      ∧ (installBranch b s).guard = s.guard ∧ (installBranch b s).watch = s.watch
      ∧ (installBranch b s).capture = s.capture ∧ (installBranch b s).notices = s.notices
      ∧ (installBranch b s).xm = s.xm ∧ (installBranch b s).tickDue = s.tickDue
      ∧ (installBranch b s).pending = s.pending := by
  simp [installBranch]

@[simp] theorem guardApply_frame (b : BranchIx) (old : BranchSettings) (s : State) :
    (guardApply b old s).now = s.now ∧ (guardApply b old s).resetHeld = s.resetHeld
      ∧ (guardApply b old s).line = s.line ∧ (guardApply b old s).capture = s.capture
      ∧ (guardApply b old s).port = s.port ∧ (guardApply b old s).settings = s.settings
      ∧ (guardApply b old s).xm = s.xm ∧ (guardApply b old s).tickDue = s.tickDue
      ∧ (guardApply b old s).pending = s.pending := by
  unfold guardApply
  repeat' split
  all_goals simp

@[simp] theorem branchSpacingApply_frame (b : BranchIx) (old : BranchSettings) (s : State) :
    (branchSpacingApply b old s).now = s.now ∧ (branchSpacingApply b old s).resetHeld = s.resetHeld
      ∧ (branchSpacingApply b old s).line = s.line ∧ (branchSpacingApply b old s).meter = s.meter
      ∧ (branchSpacingApply b old s).records = s.records ∧ (branchSpacingApply b old s).plans = s.plans
      ∧ (branchSpacingApply b old s).guard = s.guard ∧ (branchSpacingApply b old s).watch = s.watch
      ∧ (branchSpacingApply b old s).capture = s.capture ∧ (branchSpacingApply b old s).notices = s.notices
      ∧ (branchSpacingApply b old s).port = s.port ∧ (branchSpacingApply b old s).settings = s.settings
      ∧ (branchSpacingApply b old s).xm = s.xm ∧ (branchSpacingApply b old s).tickDue = s.tickDue
      ∧ (branchSpacingApply b old s).pending = s.pending := by
  unfold branchSpacingApply
  repeat' split
  all_goals simp

@[simp] theorem branchPass_frame (b : BranchIx) (old : BranchSettings) (s : State) :
    (branchPass b old s).now = s.now ∧ (branchPass b old s).resetHeld = s.resetHeld
      ∧ (branchPass b old s).line = s.line ∧ (branchPass b old s).guard = s.guard
      ∧ (branchPass b old s).watch = s.watch ∧ (branchPass b old s).capture = s.capture
      ∧ (branchPass b old s).notices = s.notices ∧ (branchPass b old s).port = s.port
      ∧ (branchPass b old s).settings = s.settings ∧ (branchPass b old s).xm = s.xm
      ∧ (branchPass b old s).tickDue = s.tickDue ∧ (branchPass b old s).pending = s.pending := by
  unfold branchPass
  dsimp only
  repeat' split
  all_goals simp

@[simp] theorem applyBranch_frame (b : BranchIx) (s : State) :
    (applyBranch b s).now = s.now ∧ (applyBranch b s).resetHeld = s.resetHeld ∧ (applyBranch b s).line = s.line
      ∧ (applyBranch b s).capture = s.capture ∧ (applyBranch b s).xm = s.xm ∧ (applyBranch b s).tickDue = s.tickDue
      ∧ (applyBranch b s).pending = s.pending := by
  simp [applyBranch]

@[simp] theorem installStrip_frame (s : State) :
    (installStrip s).now = s.now ∧ (installStrip s).resetHeld = s.resetHeld ∧ (installStrip s).line = s.line
      ∧ (installStrip s).meter = s.meter ∧ (installStrip s).records = s.records ∧ (installStrip s).relay = s.relay
      ∧ (installStrip s).sched = s.sched ∧ (installStrip s).plans = s.plans ∧ (installStrip s).guard = s.guard
      ∧ (installStrip s).watch = s.watch ∧ (installStrip s).capture = s.capture
      ∧ (installStrip s).notices = s.notices ∧ (installStrip s).xm = s.xm ∧ (installStrip s).tickDue = s.tickDue
      ∧ (installStrip s).pending = s.pending := by
  simp [installStrip]

@[simp] theorem stripSpacingApply_frame (old : StripSettings) (s : State) :
    (stripSpacingApply old s).now = s.now ∧ (stripSpacingApply old s).resetHeld = s.resetHeld
      ∧ (stripSpacingApply old s).line = s.line ∧ (stripSpacingApply old s).meter = s.meter
      ∧ (stripSpacingApply old s).records = s.records ∧ (stripSpacingApply old s).plans = s.plans
      ∧ (stripSpacingApply old s).guard = s.guard ∧ (stripSpacingApply old s).watch = s.watch
      ∧ (stripSpacingApply old s).capture = s.capture ∧ (stripSpacingApply old s).notices = s.notices
      ∧ (stripSpacingApply old s).port = s.port ∧ (stripSpacingApply old s).settings = s.settings
      ∧ (stripSpacingApply old s).xm = s.xm ∧ (stripSpacingApply old s).tickDue = s.tickDue
      ∧ (stripSpacingApply old s).pending = s.pending := by
  unfold stripSpacingApply
  repeat' split
  all_goals simp

@[simp] theorem stripPass_frame (old : StripSettings) (s : State) :
    (stripPass old s).now = s.now ∧ (stripPass old s).resetHeld = s.resetHeld ∧ (stripPass old s).line = s.line
      ∧ (stripPass old s).guard = s.guard ∧ (stripPass old s).watch = s.watch
      ∧ (stripPass old s).capture = s.capture ∧ (stripPass old s).notices = s.notices
      ∧ (stripPass old s).port = s.port ∧ (stripPass old s).settings = s.settings ∧ (stripPass old s).xm = s.xm
      ∧ (stripPass old s).tickDue = s.tickDue ∧ (stripPass old s).pending = s.pending := by
  unfold stripPass
  dsimp only
  repeat' split
  all_goals simp

@[simp] theorem applyStrip_frame (s : State) :
    (applyStrip s).now = s.now ∧ (applyStrip s).resetHeld = s.resetHeld ∧ (applyStrip s).line = s.line
      ∧ (applyStrip s).guard = s.guard ∧ (applyStrip s).watch = s.watch ∧ (applyStrip s).capture = s.capture
      ∧ (applyStrip s).xm = s.xm ∧ (applyStrip s).tickDue = s.tickDue ∧ (applyStrip s).pending = s.pending := by
  simp [applyStrip]

@[simp] theorem serviceClearEnergy_frame (o : OutletIx) (s : State) :
    (serviceClearEnergy o s).now = s.now ∧ (serviceClearEnergy o s).resetHeld = s.resetHeld
      ∧ (serviceClearEnergy o s).line = s.line ∧ (serviceClearEnergy o s).relay = s.relay
      ∧ (serviceClearEnergy o s).sched = s.sched ∧ (serviceClearEnergy o s).plans = s.plans
      ∧ (serviceClearEnergy o s).guard = s.guard ∧ (serviceClearEnergy o s).watch = s.watch
      ∧ (serviceClearEnergy o s).capture = s.capture ∧ (serviceClearEnergy o s).notices = s.notices
      ∧ (serviceClearEnergy o s).settings = s.settings ∧ (serviceClearEnergy o s).xm = s.xm
      ∧ (serviceClearEnergy o s).tickDue = s.tickDue ∧ (serviceClearEnergy o s).pending = s.pending := by
  simp [serviceClearEnergy]

@[simp] theorem serviceClearAll_frame (s : State) :
    (serviceClearAll s).now = s.now ∧ (serviceClearAll s).resetHeld = s.resetHeld
      ∧ (serviceClearAll s).line = s.line ∧ (serviceClearAll s).relay = s.relay
      ∧ (serviceClearAll s).sched = s.sched ∧ (serviceClearAll s).plans = s.plans
      ∧ (serviceClearAll s).guard = s.guard ∧ (serviceClearAll s).watch = s.watch
      ∧ (serviceClearAll s).capture = s.capture ∧ (serviceClearAll s).notices = s.notices
      ∧ (serviceClearAll s).settings = s.settings ∧ (serviceClearAll s).xm = s.xm
      ∧ (serviceClearAll s).tickDue = s.tickDue ∧ (serviceClearAll s).pending = s.pending := by
  simp [serviceClearAll]

@[simp] theorem serviceRearm_frame (o : OutletIx) (s : State) :
    (serviceRearm o s).now = s.now ∧ (serviceRearm o s).resetHeld = s.resetHeld ∧ (serviceRearm o s).line = s.line
      ∧ (serviceRearm o s).meter = s.meter ∧ (serviceRearm o s).records = s.records
      ∧ (serviceRearm o s).relay = s.relay ∧ (serviceRearm o s).sched = s.sched
      ∧ (serviceRearm o s).plans = s.plans ∧ (serviceRearm o s).guard = s.guard
      ∧ (serviceRearm o s).capture = s.capture ∧ (serviceRearm o s).notices = s.notices
      ∧ (serviceRearm o s).settings = s.settings ∧ (serviceRearm o s).xm = s.xm
      ∧ (serviceRearm o s).tickDue = s.tickDue ∧ (serviceRearm o s).pending = s.pending := by
  simp [serviceRearm]

@[simp] theorem serviceClearFault_frame (o : OutletIx) (s : State) :
    (serviceClearFault o s).now = s.now ∧ (serviceClearFault o s).resetHeld = s.resetHeld
      ∧ (serviceClearFault o s).line = s.line ∧ (serviceClearFault o s).meter = s.meter
      ∧ (serviceClearFault o s).records = s.records ∧ (serviceClearFault o s).sched = s.sched
      ∧ (serviceClearFault o s).plans = s.plans ∧ (serviceClearFault o s).guard = s.guard
      ∧ (serviceClearFault o s).watch = s.watch ∧ (serviceClearFault o s).capture = s.capture
      ∧ (serviceClearFault o s).notices = s.notices ∧ (serviceClearFault o s).settings = s.settings
      ∧ (serviceClearFault o s).xm = s.xm ∧ (serviceClearFault o s).tickDue = s.tickDue
      ∧ (serviceClearFault o s).pending = s.pending := by
  simp [serviceClearFault]

@[simp] theorem serviceUnknown_frame (w : ServiceWord) (s : State) :
    (serviceUnknown w s).now = s.now ∧ (serviceUnknown w s).resetHeld = s.resetHeld
      ∧ (serviceUnknown w s).line = s.line ∧ (serviceUnknown w s).meter = s.meter
      ∧ (serviceUnknown w s).records = s.records ∧ (serviceUnknown w s).relay = s.relay
      ∧ (serviceUnknown w s).sched = s.sched ∧ (serviceUnknown w s).plans = s.plans
      ∧ (serviceUnknown w s).guard = s.guard ∧ (serviceUnknown w s).watch = s.watch
      ∧ (serviceUnknown w s).capture = s.capture ∧ (serviceUnknown w s).notices = s.notices
      ∧ (serviceUnknown w s).settings = s.settings ∧ (serviceUnknown w s).xm = s.xm
      ∧ (serviceUnknown w s).tickDue = s.tickDue ∧ (serviceUnknown w s).pending = s.pending := by
  simp [serviceUnknown]

@[simp] theorem takeService_frame (w : ServiceWord) (v : Word) (s : State) :
    (takeService w v s).now = s.now ∧ (takeService w v s).resetHeld = s.resetHeld
      ∧ (takeService w v s).line = s.line ∧ (takeService w v s).capture = s.capture ∧ (takeService w v s).xm = s.xm
      ∧ (takeService w v s).tickDue = s.tickDue ∧ (takeService w v s).pending = s.pending := by
  unfold takeService
  repeat' split
  all_goals simp


/-! ### PortOps -/

@[simp] theorem startRunning_frame (s : State) :
    (startRunning s).now = s.now ∧ (startRunning s).resetHeld = s.resetHeld ∧ (startRunning s).line = s.line
      ∧ (startRunning s).capture = s.capture ∧ (startRunning s).settings = s.settings ∧ (startRunning s).xm = s.xm
      ∧ (startRunning s).tickDue = s.tickDue ∧ (startRunning s).pending = s.pending := by
  simp [startRunning]

@[simp] theorem stopRunning_frame (s : State) :
    (stopRunning s).now = s.now ∧ (stopRunning s).resetHeld = s.resetHeld ∧ (stopRunning s).line = s.line
      ∧ (stopRunning s).capture = s.capture ∧ (stopRunning s).settings = s.settings ∧ (stopRunning s).xm = s.xm
      ∧ (stopRunning s).tickDue = s.tickDue ∧ (stopRunning s).pending = s.pending := by
  simp [stopRunning]

@[simp] theorem takeRun_frame (run : Bool) (s : State) :
    (takeRun run s).now = s.now ∧ (takeRun run s).resetHeld = s.resetHeld ∧ (takeRun run s).line = s.line
      ∧ (takeRun run s).capture = s.capture ∧ (takeRun run s).settings = s.settings ∧ (takeRun run s).xm = s.xm
      ∧ (takeRun run s).tickDue = s.tickDue ∧ (takeRun run s).pending = s.pending := by
  unfold takeRun
  repeat' split
  all_goals simp

@[simp] theorem warmRelays_frame (s : State) :
    (warmRelays s).now = s.now ∧ (warmRelays s).resetHeld = s.resetHeld ∧ (warmRelays s).line = s.line
      ∧ (warmRelays s).meter = s.meter ∧ (warmRelays s).records = s.records ∧ (warmRelays s).sched = s.sched
      ∧ (warmRelays s).plans = s.plans ∧ (warmRelays s).guard = s.guard ∧ (warmRelays s).watch = s.watch
      ∧ (warmRelays s).capture = s.capture ∧ (warmRelays s).notices = s.notices ∧ (warmRelays s).port = s.port
      ∧ (warmRelays s).settings = s.settings ∧ (warmRelays s).xm = s.xm ∧ (warmRelays s).tickDue = s.tickDue
      ∧ (warmRelays s).pending = s.pending := by
  simp [warmRelays]

@[simp] theorem warmReleases_frame (ended : List OutletIx) (s : State) :
    (warmReleases ended s).now = s.now ∧ (warmReleases ended s).resetHeld = s.resetHeld
      ∧ (warmReleases ended s).line = s.line ∧ (warmReleases ended s).capture = s.capture
      ∧ (warmReleases ended s).port = s.port ∧ (warmReleases ended s).settings = s.settings
      ∧ (warmReleases ended s).xm = s.xm ∧ (warmReleases ended s).tickDue = s.tickDue
      ∧ (warmReleases ended s).pending = s.pending := by
  simp [warmReleases]

@[simp] theorem warmClear_frame (s : State) :
    (warmClear s).now = s.now ∧ (warmClear s).resetHeld = s.resetHeld ∧ (warmClear s).line = s.line
      ∧ (warmClear s).meter = s.meter ∧ (warmClear s).records = s.records ∧ (warmClear s).plans = s.plans
      ∧ (warmClear s).guard = s.guard ∧ (warmClear s).watch = s.watch ∧ (warmClear s).capture = s.capture
      ∧ (warmClear s).settings = s.settings ∧ (warmClear s).xm = s.xm ∧ (warmClear s).tickDue = s.tickDue
      ∧ (warmClear s).pending = s.pending := by
  simp [warmClear]

@[simp] theorem warmPlans_frame (s : State) :
    (warmPlans s).now = s.now ∧ (warmPlans s).resetHeld = s.resetHeld ∧ (warmPlans s).line = s.line
      ∧ (warmPlans s).meter = s.meter ∧ (warmPlans s).records = s.records ∧ (warmPlans s).relay = s.relay
      ∧ (warmPlans s).sched = s.sched ∧ (warmPlans s).capture = s.capture ∧ (warmPlans s).port = s.port
      ∧ (warmPlans s).settings = s.settings ∧ (warmPlans s).xm = s.xm ∧ (warmPlans s).tickDue = s.tickDue
      ∧ (warmPlans s).pending = s.pending := by
  simp [warmPlans]

@[simp] theorem warmReset_frame (s : State) :
    (warmReset s).now = s.now ∧ (warmReset s).resetHeld = s.resetHeld ∧ (warmReset s).line = s.line
      ∧ (warmReset s).settings = s.settings ∧ (warmReset s).xm = s.xm ∧ (warmReset s).tickDue = s.tickDue
      ∧ (warmReset s).pending = s.pending := by
  simp [warmReset]

@[simp] theorem controlWrite_frame (v : Word) (s : State) :
    (controlWrite v s).now = s.now ∧ (controlWrite v s).resetHeld = s.resetHeld ∧ (controlWrite v s).line = s.line
      ∧ (controlWrite v s).settings = s.settings ∧ (controlWrite v s).xm = s.xm
      ∧ (controlWrite v s).tickDue = s.tickDue ∧ (controlWrite v s).pending = s.pending := by
  unfold controlWrite
  repeat' split
  all_goals simp

@[simp] theorem watchedWrite_frame (w : Watched) (v : Word) (s : State) :
    (watchedWrite w v s).now = s.now ∧ (watchedWrite w v s).resetHeld = s.resetHeld
      ∧ (watchedWrite w v s).line = s.line ∧ (watchedWrite w v s).xm = s.xm
      ∧ (watchedWrite w v s).tickDue = s.tickDue ∧ (watchedWrite w v s).pending = s.pending := by
  unfold watchedWrite
  repeat' split
  all_goals simp

@[simp] theorem storeWord_frame (off : Nat) (v : Word) (s : State) :
    (storeWord off v s).now = s.now ∧ (storeWord off v s).resetHeld = s.resetHeld
      ∧ (storeWord off v s).line = s.line ∧ (storeWord off v s).meter = s.meter
      ∧ (storeWord off v s).records = s.records ∧ (storeWord off v s).relay = s.relay
      ∧ (storeWord off v s).sched = s.sched ∧ (storeWord off v s).plans = s.plans
      ∧ (storeWord off v s).guard = s.guard ∧ (storeWord off v s).watch = s.watch
      ∧ (storeWord off v s).capture = s.capture ∧ (storeWord off v s).notices = s.notices
      ∧ (storeWord off v s).port = s.port ∧ (storeWord off v s).settings = s.settings
      ∧ (storeWord off v s).tickDue = s.tickDue ∧ (storeWord off v s).pending = s.pending := by
  unfold storeWord
  repeat' split
  all_goals simp

@[simp] theorem xmWrite_frame (off : Nat) (v : Word) (s : State) :
    (xmWrite off v s).now = s.now ∧ (xmWrite off v s).resetHeld = s.resetHeld ∧ (xmWrite off v s).line = s.line
      ∧ (xmWrite off v s).tickDue = s.tickDue ∧ (xmWrite off v s).pending = s.pending := by
  unfold xmWrite
  repeat' split
  all_goals simp

@[simp] theorem takeHostWrite_frame (a : HostAddr) (v : Word) (s : State) :
    (takeHostWrite a v s).now = s.now ∧ (takeHostWrite a v s).resetHeld = s.resetHeld
      ∧ (takeHostWrite a v s).line = s.line ∧ (takeHostWrite a v s).tickDue = s.tickDue
      ∧ (takeHostWrite a v s).pending = s.pending := by
  unfold takeHostWrite
  repeat' split
  all_goals simp

end Sys2Proof.Machine
end

