-- ==== Sys2Proof/Laws/Memory.lean ====
section
/-! SUPPORT. Exchange memory: every operation keeps the canonical form, a read after a write of the same place
gives the value written, and a write leaves every other place alone. -/

namespace Sys2Proof.Machine

theorem Memory.wfAbove_weaken {m : Memory} {a b : Nat} (h : b ≤ a) (k : Memory.wfAbove m a = true) :
    Memory.wfAbove m b = true := by
  cases m with
  | nil => rfl
  | cons c m =>
    simp only [Memory.wfAbove, Bool.and_eq_true, decide_eq_true_eq] at k ⊢
    exact ⟨⟨by omega, k.1.2⟩, k.2⟩

theorem Memory.wf_of_wfAbove {m : Memory} {a : Nat} (k : Memory.wfAbove m a = true) : Memory.wf m = true := by
  cases m with
  | nil => rfl
  | cons c m =>
    simp only [Memory.wfAbove, Memory.wf, Bool.and_eq_true] at k ⊢
    exact ⟨k.1.2, k.2⟩

/-- A write above a bound keeps the form above the bound. -/
theorem Memory.wfAbove_write {m : Memory} {a b : Nat} {v : Byte} (h : b < a) (k : Memory.wfAbove m b = true) :
    Memory.wfAbove (Memory.write m a v) b = true := by
  induction m generalizing b with
  | nil =>
    simp only [Memory.write]
    split
    · rfl
    · simp_all [Memory.wfAbove]
  | cons c m ih =>
    obtain ⟨p, w⟩ := c
    simp only [Memory.wfAbove, Bool.and_eq_true, decide_eq_true_eq, bne_iff_ne, ne_eq] at k
    simp only [Memory.write]
    split
    · split
      · simp_all [Memory.wfAbove]
      · simp_all [Memory.wfAbove]
    · split
      · split
        · exact Memory.wfAbove_weaken (by omega) k.2
        · subst_vars; simp_all [Memory.wfAbove]
      · have := ih (b := p) (by omega) k.2
        simp_all [Memory.wfAbove]

/-- A write keeps the canonical form. -/
theorem Memory.wf_write {m : Memory} (k : Memory.wf m = true) (a : Nat) (v : Byte) :
    Memory.wf (Memory.write m a v) = true := by
  cases m with
  | nil =>
    simp only [Memory.write]
    split
    · rfl
    · simp_all [Memory.wf, Memory.wfAbove]
  | cons c m =>
    obtain ⟨p, w⟩ := c
    simp only [Memory.wf, Bool.and_eq_true, bne_iff_ne, ne_eq] at k
    simp only [Memory.write]
    split
    · split
      · simp_all [Memory.wf]
      · simp_all [Memory.wf, Memory.wfAbove]
    · split
      · split
        · exact Memory.wf_of_wfAbove k.2
        · subst_vars; simp_all [Memory.wf]
      · have := Memory.wfAbove_write (v := v) (a := a) (b := p) (by omega) k.2
        simp_all [Memory.wf]

/-- Below every listed address a byte reads as unwritten. -/
theorem Memory.read_below {m : Memory} {b a : Nat} (k : Memory.wfAbove m b = true) (h : a ≤ b) :
    Memory.read m a = Config.unwrittenByte := by
  induction m generalizing b with
  | nil => rfl
  | cons c m ih =>
    obtain ⟨p, w⟩ := c
    simp only [Memory.wfAbove, Bool.and_eq_true, decide_eq_true_eq] at k
    rw [Memory.read, if_neg (by omega)]
    exact ih k.2 (by omega)

/-- What a read gives after a write. -/
theorem Memory.read_write {m : Memory} (k : Memory.wf m = true) (a c : Nat) (v : Byte) :
    Memory.read (Memory.write m a v) c = if c = a then v else Memory.read m c := by
  induction m with
  | nil =>
    simp only [Memory.write]
    by_cases h : c = a <;> by_cases hv : v = Config.unwrittenByte <;> simp [Memory.read, h, hv]
    exact fun e => absurd e.symm h
  | cons d m ih =>
    obtain ⟨p, w⟩ := d
    have k2 : Memory.wfAbove m p = true := by simp_all [Memory.wf]
    have ih' := ih (Memory.wf_of_wfAbove k2)
    simp only [Memory.write]
    split
    · rename_i hp
      have hb : Memory.read m a = Config.unwrittenByte := Memory.read_below k2 (by omega)
      split
      · by_cases h : c = a
        · subst h; simp_all [Memory.read]; intro e; omega
        · simp [h]
      · by_cases h : c = a
        · simp [Memory.read, h]
        · have : a ≠ c := fun e => h e.symm
          simp [Memory.read, h, this]
    · split
      · rename_i hp
        subst hp
        have hb : Memory.read m a = Config.unwrittenByte := Memory.read_below k2 (by omega)
        split
        · by_cases h : c = a
          · simp_all
          · have : a ≠ c := fun e => h e.symm
            simp [Memory.read, h, this]
        · by_cases h : c = a
          · simp [Memory.read, h]
          · have : a ≠ c := fun e => h e.symm
            simp [Memory.read, h, this]
      · by_cases h : p = c
        · have : c ≠ a := by omega
          simp [Memory.read, h, this]
        · simp [Memory.read, h, ih']

/-- A word write keeps the canonical form. -/
theorem Memory.wf_setWord {m : Memory} (k : Memory.wf m = true) (off : Nat) (w : Word) :
    Memory.wf (Memory.setWord m off w) = true := Memory.wf_write (Memory.wf_write k _ _) _ _

/-- What a byte reads after a word write. -/
theorem Memory.read_setWord {m : Memory} (k : Memory.wf m = true) (off c : Nat) (w : Word) :
    Memory.read (Memory.setWord m off w) c =
      if c = off + 1 then w.extractLsb' 8 8 else if c = off then w.extractLsb' 0 8 else Memory.read m c := by
  rw [Memory.setWord, Memory.read_write (Memory.wf_write k _ _), Memory.read_write k]

/-- The word just written reads back. -/
theorem Memory.word_setWord_same {m : Memory} (k : Memory.wf m = true) (off : Nat) (w : Word) :
    Memory.word (Memory.setWord m off w) off = w := by
  simp only [Memory.word, Memory.read_setWord k]
  simp only [if_true, Nat.left_eq_add, Nat.succ_ne_self, if_false, one_ne_zero]
  ext i hi
  simp only [BitVec.getElem_append, BitVec.getElem_extractLsb', BitVec.getLsbD_eq_getElem]
  split
  · simp [BitVec.getLsbD_eq_getElem, hi]
  · simp [show 8 + (i - 8) = i by omega, BitVec.getLsbD_eq_getElem, hi]

/-- A word at another even offset keeps its value. -/
theorem Memory.word_setWord_other {m : Memory} (k : Memory.wf m = true) {off c : Nat} (w : Word)
    (h : c ≠ off) (h1 : c + 1 ≠ off) (h2 : off + 1 ≠ c) :
    Memory.word (Memory.setWord m off w) c = Memory.word m c := by
  simp only [Memory.word, Memory.read_setWord k]
  rw [if_neg (by omega), if_neg (by omega), if_neg (by omega), if_neg (by omega)]

/-- The capture's words keep the canonical form. -/
theorem writeArea_wf {m : Memory} (k : Memory.wf m = true) (ws : List Word) (fill : Nat) :
    Memory.wf (writeArea m fill ws) = true := by
  induction ws generalizing m fill with
  | nil => exact k
  | cons w ws ih =>
    rw [writeArea]
    split
    · exact ih (Memory.wf_setWord k _ _) _
    · exact ih k _

/-- The capture's words leave every byte below the capture area alone. -/
theorem writeArea_below {m : Memory} (k : Memory.wf m = true) (ws : List Word) (fill : Nat) {c : Nat}
    (h : c < Config.captureBase) : Memory.read (writeArea m fill ws) c = Memory.read m c := by
  induction ws generalizing m fill with
  | nil => rfl
  | cons w ws ih =>
    rw [writeArea]
    split
    · rw [ih (Memory.wf_setWord k _ _), Memory.read_setWord k, if_neg (by omega), if_neg (by omega)]
    · exact ih k _

end Sys2Proof.Machine
end

