-- ==== Sys2Proof/Laws/PerInstr.lean ====
section
/-! SUPPORT. What well-formedness says of each command: it is the condition under which the row of the table
describes the written value, in the manual's own numbers. -/

namespace Sys2Proof.Laws.Operands

/-- An unknown service names none of the services of its word (R179). -/
def ServiceCondition : ServiceWord → Word → Prop
  | .outlet _, v => v ≠ 1 ∧ v ≠ 2 ∧ v ≠ 3 ∧ v ≠ 4
  | .branch _, v => v ≠ 1
  | .strip, v => v ≠ 1 ∧ v ≠ 2

/-- A plain host write selects no watched word, by its byte offset, and no CONTROL write with WARM (R178, R182). -/
def WriteCondition : HostAddr → Word → Prop
  | .xm w, _ =>
    2 * w.toNat ∉ [0x52, 0x58, 0x5A, 0x86]
      ∧ ¬ (0x200 ≤ 2 * w.toNat ∧ 2 * w.toNat < 0x380 ∧ 2 * w.toNat % 64 = 0x3C)
      ∧ ¬ (0x400 ≤ 2 * w.toNat ∧ 2 * w.toNat < 0x1C00 ∧ (2 * w.toNat % 128 = 0x40 ∨ 2 * w.toNat % 128 = 0x5A))
  | .control r, v => r = 1 → v.getLsbD 1 = false

/-- The condition under which a command's operands are those of its row: an unknown value names nothing (R105, R113,
R167, R179), a CONTROL write has the bits of its row (R182), a plain host write selects no watched word (R178). -/
def RowCondition : Instr → Prop
  | .postingUnknownKind _ v => v ≠ 1 ∧ v ≠ 2 ∧ v ≠ 3 ∧ v ≠ 4
  | .groupUnknownKind v => v ≠ 1 ∧ v ≠ 2 ∧ v ≠ 3 ∧ v ≠ 4
  | .captureUnknownCommand v => v ≠ 1 ∧ v ≠ 2
  | .unknownService w v => ServiceCondition w v
  | .runSet v => v.getLsbD 0 = true ∧ v.getLsbD 1 = false
  | .runClear v => v.getLsbD 0 = false ∧ v.getLsbD 1 = false
  | .warmReset v => v.getLsbD 1 = true
  | .attentionMode v => v.getLsbD 1 = false
  | .hostWrite a v => WriteCondition a v
  | .powerOnReset _ | .lineSyncEdge | .edgeDeadlineExpiry | .flywheelStart | .freeRunStart | .slotStart => True
  | .completeSlot _ _ | .tick | .closePendingTimeout | .pulseStart _ | .pulseEnd _ | .settleEnd _ => True
  | .verifyDeadline _ | .holdOffExpiry _ | .admissionDeadlineExpiry _ | .postingOn _ | .postingOff _ => True
  | .postingCycle _ | .postingCancel _ | .dwellExpiry _ | .groupOn | .groupOff | .groupCycle | .groupCancel => True
  | .branchSenseChange _ _ | .debounceExpiry _ | .returnTimerExpiry _ | .kick _ | .graceEnd _ => True
  | .stallDeclaration _ | .recoverySpanReached _ | .captureStart | .captureAbort | .armTimeout | .outletApply _ => True
  | .branchApply _ | .stripApply | .clearEnergy _ | .clearAllEnergy | .rearmWatch _ | .clearFault _ | .pollRead => True
  | .reRaise _ _ | .attentionPulseEnd | .flashingPatternTransition | .publicationComplete => True

/-- A command is well formed exactly under the condition of its row. -/
def Statement (i : Instr) : Prop := WellFormed i = true ↔ RowCondition i

/-- A word is one of 1 to 4 exactly when it names a kind. -/
theorem namesKind_false (v : Word) : (!namesKind v) = true ↔ v ≠ 1 ∧ v ≠ 2 ∧ v ≠ 3 ∧ v ≠ 4 := by
  simp only [namesKind, Bool.not_eq_true', Bool.and_eq_false_iff, decide_eq_false_iff_not, ne_eq]
  bv_omega

/-- A byte offset holds no watched word exactly when it is none of the watched words' offsets. -/
theorem watchedAt_isNone (off : Nat) :
    (watchedAt off).isNone = true ↔
      off ∉ [0x52, 0x58, 0x5A, 0x86] ∧ ¬ (0x200 ≤ off ∧ off < 0x380 ∧ off % 64 = 0x3C)
        ∧ ¬ (0x400 ≤ off ∧ off < 0x1C00 ∧ (off % 128 = 0x40 ∨ off % 128 = 0x5A)) := by
  unfold watchedAt
  simp only [List.mem_cons, List.not_mem_nil, or_false, not_or]
  repeat' split
  all_goals simp only [Option.isNone_some, Option.isNone_none, Bool.false_eq_true, true_iff, false_iff]
  all_goals omega

theorem powerOnReset (held : Bool) : Statement (.powerOnReset held) :=
  iff_of_true rfl trivial

theorem lineSyncEdge : Statement .lineSyncEdge :=
  iff_of_true rfl trivial

theorem edgeDeadlineExpiry : Statement .edgeDeadlineExpiry :=
  iff_of_true rfl trivial

theorem flywheelStart : Statement .flywheelStart :=
  iff_of_true rfl trivial

theorem freeRunStart : Statement .freeRunStart :=
  iff_of_true rfl trivial

theorem slotStart : Statement .slotStart :=
  iff_of_true rfl trivial

theorem completeSlot (samples : SampleSet) (sense : BitVec 48) : Statement (.completeSlot samples sense) :=
  iff_of_true rfl trivial

theorem tick : Statement .tick :=
  iff_of_true rfl trivial

theorem closePendingTimeout : Statement .closePendingTimeout :=
  iff_of_true rfl trivial

theorem pulseStart (o : OutletIx) : Statement (.pulseStart o) :=
  iff_of_true rfl trivial

theorem pulseEnd (o : OutletIx) : Statement (.pulseEnd o) :=
  iff_of_true rfl trivial

theorem settleEnd (o : OutletIx) : Statement (.settleEnd o) :=
  iff_of_true rfl trivial

theorem verifyDeadline (o : OutletIx) : Statement (.verifyDeadline o) :=
  iff_of_true rfl trivial

theorem holdOffExpiry (scope : SpacingScope) : Statement (.holdOffExpiry scope) :=
  iff_of_true rfl trivial

theorem admissionDeadlineExpiry (o : OutletIx) : Statement (.admissionDeadlineExpiry o) :=
  iff_of_true rfl trivial

theorem postingOn (o : OutletIx) : Statement (.postingOn o) :=
  iff_of_true rfl trivial

theorem postingOff (o : OutletIx) : Statement (.postingOff o) :=
  iff_of_true rfl trivial

theorem postingCycle (o : OutletIx) : Statement (.postingCycle o) :=
  iff_of_true rfl trivial

theorem postingCancel (o : OutletIx) : Statement (.postingCancel o) :=
  iff_of_true rfl trivial

theorem postingUnknownKind (o : OutletIx) (value : Word) : Statement (.postingUnknownKind o value) :=
  namesKind_false value

theorem dwellExpiry (o : OutletIx) : Statement (.dwellExpiry o) :=
  iff_of_true rfl trivial

theorem groupOn : Statement .groupOn :=
  iff_of_true rfl trivial

theorem groupOff : Statement .groupOff :=
  iff_of_true rfl trivial

theorem groupCycle : Statement .groupCycle :=
  iff_of_true rfl trivial

theorem groupCancel : Statement .groupCancel :=
  iff_of_true rfl trivial

theorem groupUnknownKind (value : Word) : Statement (.groupUnknownKind value) :=
  namesKind_false value

theorem branchSenseChange (b : BranchIx) (level : Bool) : Statement (.branchSenseChange b level) :=
  iff_of_true rfl trivial

theorem debounceExpiry (b : BranchIx) : Statement (.debounceExpiry b) :=
  iff_of_true rfl trivial

theorem returnTimerExpiry (b : BranchIx) : Statement (.returnTimerExpiry b) :=
  iff_of_true rfl trivial

theorem kick (value : Word) : Statement (.kick value) :=
  iff_of_true rfl trivial

theorem graceEnd (o : OutletIx) : Statement (.graceEnd o) :=
  iff_of_true rfl trivial

theorem stallDeclaration (o : OutletIx) : Statement (.stallDeclaration o) :=
  iff_of_true rfl trivial

theorem recoverySpanReached (o : OutletIx) : Statement (.recoverySpanReached o) :=
  iff_of_true rfl trivial

theorem captureStart : Statement .captureStart :=
  iff_of_true rfl trivial

theorem captureAbort : Statement .captureAbort :=
  iff_of_true rfl trivial

theorem captureUnknownCommand (value : Word) : Statement (.captureUnknownCommand value) := by
  show (!namesCapture value) = true ↔ value ≠ 1 ∧ value ≠ 2
  simp only [namesCapture, Bool.not_eq_true', Bool.or_eq_false_iff, beq_eq_false_iff_ne]
  bv_omega

theorem armTimeout : Statement .armTimeout :=
  iff_of_true rfl trivial

theorem outletApply (o : OutletIx) : Statement (.outletApply o) :=
  iff_of_true rfl trivial

theorem branchApply (b : BranchIx) : Statement (.branchApply b) :=
  iff_of_true rfl trivial

theorem stripApply : Statement .stripApply :=
  iff_of_true rfl trivial

theorem clearEnergy (o : OutletIx) : Statement (.clearEnergy o) :=
  iff_of_true rfl trivial

theorem clearAllEnergy : Statement .clearAllEnergy :=
  iff_of_true rfl trivial

theorem rearmWatch (o : OutletIx) : Statement (.rearmWatch o) :=
  iff_of_true rfl trivial

theorem clearFault (o : OutletIx) : Statement (.clearFault o) :=
  iff_of_true rfl trivial

theorem unknownService (word : ServiceWord) (value : Word) : Statement (.unknownService word value) := by
  cases word with
  | outlet o => exact namesKind_false value
  | branch b =>
    show (!namesService (.branch b) value) = true ↔ value ≠ 1
    simp only [namesService, Bool.not_eq_true', beq_eq_false_iff_ne]
    bv_omega
  | strip =>
    show (!namesService .strip value) = true ↔ value ≠ 1 ∧ value ≠ 2
    simp only [namesService, Bool.not_eq_true', Bool.or_eq_false_iff,
      beq_eq_false_iff_ne]
    bv_omega

theorem runSet (value : Word) : Statement (.runSet value) := by
  show (controlRun value && !controlWarm value) = true ↔ value.getLsbD 0 = true ∧ value.getLsbD 1 = false
  simp [controlRun, controlWarm]

theorem runClear (value : Word) : Statement (.runClear value) := by
  show (!controlRun value && !controlWarm value) = true ↔ value.getLsbD 0 = false ∧ value.getLsbD 1 = false
  simp [controlRun, controlWarm]

theorem warmReset (value : Word) : Statement (.warmReset value) := by
  exact Iff.rfl

theorem attentionMode (value : Word) : Statement (.attentionMode value) := by
  show (!controlWarm value) = true ↔ value.getLsbD 1 = false
  simp [controlWarm]

theorem pollRead : Statement .pollRead :=
  iff_of_true rfl trivial

theorem reRaise (source : SourceIx) (bit : CauseBit) : Statement (.reRaise source bit) :=
  iff_of_true rfl trivial

theorem attentionPulseEnd : Statement .attentionPulseEnd :=
  iff_of_true rfl trivial

theorem hostWrite (addr : HostAddr) (value : Word) : Statement (.hostWrite addr value) := by
  cases addr with
  | xm w => exact watchedAt_isNone (2 * w.toNat)
  | control r =>
    show plainWrite (.control r) value = true ↔ (r = 1 → value.getLsbD 1 = false)
    rw [plainWrite, controlWarm, Bool.or_eq_true, decide_eq_true_iff, Bool.not_eq_true', imp_iff_not_or]

theorem flashingPatternTransition : Statement .flashingPatternTransition :=
  iff_of_true rfl trivial

theorem publicationComplete : Statement .publicationComplete :=
  iff_of_true rfl trivial

end Sys2Proof.Laws.Operands
end

