-- ==== Sys2Proof/Tests/Slice0.lean ====
section
/-! SUPPORT. Tests of the model: an ill-formed command for each check of well-formedness, single steps whose results
are the manual's own worked values, and for every statement with premises a state and operands that meet them. -/

namespace Sys2Proof.Tests
open Sys2Proof.Machine

set_option maxRecDepth 20000

/-! ### Ill-formed commands -/

/-- Values 1 to 4 of the command words name a kind (R105, R113). -/
theorem test_unknown_kind_refuses_known :
    WellFormed (.postingUnknownKind 0 1) = false ∧ WellFormed (.postingUnknownKind 0 4) = false
      ∧ WellFormed (.groupUnknownKind 2) = false ∧ WellFormed (.groupUnknownKind 3) = false
      ∧ WellFormed (.postingUnknownKind 0 5) = true ∧ WellFormed (.groupUnknownKind 0) = true := by decide

/-- Values 1 and 2 of the capture command word name a command (R167). -/
theorem test_unknown_capture_refuses_known :
    WellFormed (.captureUnknownCommand 1) = false ∧ WellFormed (.captureUnknownCommand 2) = false
      ∧ WellFormed (.captureUnknownCommand 3) = true := by decide

/-- The service codes of each service word (R179). -/
theorem test_unknown_service_refuses_known :
    WellFormed (.unknownService (.outlet 7) 4) = false ∧ WellFormed (.unknownService (.branch 2) 1) = false
      ∧ WellFormed (.unknownService .strip 2) = false ∧ WellFormed (.unknownService (.branch 2) 2) = true
      ∧ WellFormed (.unknownService .strip 3) = true := by decide

/-- The bits of a CONTROL write: RUN in bit 0, WARM in bit 1 (R182). -/
theorem test_control_rows_refuse_other_bits :
    WellFormed (.runSet 0) = false ∧ WellFormed (.runSet 3) = false ∧ WellFormed (.runClear 1) = false
      ∧ WellFormed (.runClear 2) = false ∧ WellFormed (.warmReset 1) = false
      ∧ WellFormed (.attentionMode 2) = false ∧ WellFormed (.hostWrite (.control 1) 2) = false
      ∧ WellFormed (.runSet 9) = true ∧ WellFormed (.warmReset 3) = true := by decide

/-- A plain host write selects no watched word: the strip's four, a branch's service word, an outlet's command and
service words (R178). -/
theorem test_host_write_refuses_watched :
    WellFormed (.hostWrite (.xm (0x52 / 2)) 0) = false ∧ WellFormed (.hostWrite (.xm (0x86 / 2)) 0) = false
      ∧ WellFormed (.hostWrite (.xm (0x23C / 2)) 0) = false ∧ WellFormed (.hostWrite (.xm (0x440 / 2)) 0) = false
      ∧ WellFormed (.hostWrite (.xm (0x45A / 2)) 0) = false
      ∧ WellFormed (.hostWrite (.xm (0x442 / 2)) 0) = true := by decide

/-! ### States -/

/-- The state a command leaves. -/
def after (c : Instr) (s : State) : State := match exec c s with | .next t => t | _ => s

/-- The reset state at a count. -/
def ready (now : Nat) : State := { State.reset with now := now }

/-- The tracker in LOCKED at 50 Hz, with its last accepted edge at count 0. -/
def locked (now : Nat) : State :=
  (ready now).updLine fun l => { l with tracker := .locked, edgeRef := some 0, deadline := some 819200 }

/-- Branch 1 LIVE and the strip RUNNING. -/
def live (s : State) : State :=
  (s.updBranch 0 fun b => { b with state := .live, debounced := true, input := true }).updPort
    fun p => { p with running := true }

/-- A POSTED plan. -/
def planOf (k : PlanKind) (st : PlanStep) : Plan :=
  { kind := k, origin := .posted, step := st, dwell := 10, dwellEnd := 100, tag := 7, replaced := none
    openingUnverified := false, groupMember := false, heldCancel := false, waiting := false }

/-- An operation of a plan, first attempt. -/
def opOf (d : Direction) (st : Stage) : Op :=
  { direction := d, origin := .posted, attempt := .first, stage := st, target := some 35, aim := .voltage
    pulseMs := 15, settleMs := 20, advance := 16, startSec := 0, dispatchPosition := .unknown, enteredAt := 0
    cyclesSeen := 1
    pulseDue := true, deferred := false, endsAt := 0, slotStarts := 256, samples := 64, asserted := 0
    quietRun := 64, abandoned := false }

/-- An entry of class 2 that joined at strip millisecond 0. -/
def entryOf (d : Direction) : Entry :=
  { direction := d, origin := .posted, klass := 2, enteredAt := 0, deadline := 60000, pausedSince := none
    wait := .none }

/-- Outlet 1 with a plan. -/
def planned (k : PlanKind) (st : PlanStep) (s : State) : State := s.setPlan 0 (some (planOf k st))

/-- Outlet 1 with a plan and its operation. -/
def operating (k : PlanKind) (op : Op) (s : State) : State :=
  (planned k (operationStep op.direction) s).setOp 0 (some op)

/-- Outlet 1 with a plan and its entry. -/
def waiting (k : PlanKind) (d : Direction) (s : State) : State :=
  (planned k (queuedStep d) s).setEntry 0 (some (entryOf d))

/-- A tick at 8,192,000 set close pending, and its limit is now. -/
def closing (s : State) : State :=
  { s with now := 8374044, line := { s.line with closePending := some 8192000 } }

/-! ### The manual's worked values -/

/-- The fourth edge of the worked lock: LOCKED with P = 163,186 and the deadline at 1,501,949 (01). -/
theorem test_edge_locks :
    let s := (ready 682749).updLine fun l =>
      { l with edgeRef := some 519563, prevCandidate := some 163188, lockRun := 3 }
    (after .lineSyncEdge s).line.tracker = .locked ∧ (after .lineSyncEdge s).line.period = 163186
      ∧ (after .lineSyncEdge s).line.deadline = some 1501949 := by decide

/-- Slot 1 of the worked cycle starts at 685,298 and not a count earlier (01). -/
theorem test_slot_one_start :
    let s := fun now => (ready now).updLine fun l =>
      { l with period := 163186, cycleStart := 682749, tracker := .locked }
    (after .slotStart (s 685298)).line.nextSlot = 2 ∧ (after .slotStart (s 685297)).line.nextSlot = 1 := by decide

/-- The deadline expiry of the worked loss holds P (01). -/
theorem test_edge_deadline :
    (after .edgeDeadlineExpiry (locked 819200)).line.tracker = .holdover
      ∧ (after .edgeDeadlineExpiry (locked 819199)).line.tracker = .locked := by decide

/-- The flywheel start follows the last start by P counts. -/
theorem test_flywheel :
    (after .flywheelStart (locked 163840)).line.cycleStart = 163840
      ∧ (after .flywheelStart (locked 163840)).line.cycleNo = 2 := by decide

/-- A free-run start comes at 163,840 in SEARCHING (01). -/
theorem test_free_run :
    (after .freeRunStart (ready 163840)).line.cycleStart = 163840
      ∧ (after .freeRunStart (ready 163839)).line.cycleStart = 0 := by decide

/-- A complete slot is counted and clears the slot in flight. -/
theorem test_complete_slot :
    (after (.completeSlot (Vector.replicate 51 3) 0) State.reset).meter.n = 1
      ∧ (after (.completeSlot (Vector.replicate 51 3) 0) State.reset).meter.sNN = 20736 := by decide

/-- The first tick sets strip seconds to 1 (R12). -/
theorem test_tick : (after .tick (locked 8192000)).line.seconds = 1
    ∧ (after .tick (locked 8192000)).line.closePending = some 8192000 := by decide

/-- The worked close of outlet 12: 2,020 mA, 4,181 dW, 4,646 dVA, 900 per mille (02). -/
theorem test_worked_readings :
    roundDiv (isqrt (12800000000 / 3200) * 33096) 32768 = 2020
      ∧ roundDivInt (truncDiv 66240000000 3200 * 33096 * 32768) (2 ^ 30) = 20907202
      ∧ roundDiv 20907202 5000 = 4181 ∧ roundDiv (23000 * 2020) 10000 = 4646
      ∧ roundDiv (2000 * 20907202) (23000 * 2020) = 900 := by decide

/-- Outlet 1 with the worked sums of outlet 12 at a close (02). -/
def workedClose : State :=
  closing (((locked 0).updOutletMeter 0 fun m => { m with sII := 12800000000, sVI := 66240000000 }).updMeter
    fun m => { m with n := 3200, phases := upd m.phases 0 fun p => { p with sVV := 423200000000 } })

/-- The window closes at the limit with the worked readings at unity gain. -/
theorem test_close_timeout :
    ((after .closePendingTimeout workedClose).ometer 0).irms = 2000
      ∧ (after .closePendingTimeout workedClose).line.windowIndex = 1 := by decide

/-- The pulse end releases at its count. -/
theorem test_pulse_end :
    ((after (.pulseEnd 0) (operating .on { opOf .close .pulsing with endsAt := 335360 } (ready 335360))).op 0).map
      Op.endsAt = some 499200 := by decide

/-- The worked pulse start records the closing (03, 04). -/
theorem test_pulse_start :
    ((after (.pulseStart 0) (live (operating .on (opOf .close .aiming) (ready 212480)))).op 0).map Op.endsAt
      = some 335360 := by decide

/-- The settle end of a LIVE branch starts VERIFYING. -/
theorem test_settle_end :
    ((after (.settleEnd 0) (live (operating .on (opOf .close .settling) (ready 499200)))).op 0).map Op.stage
      = some .verifying := by decide

/-- A second attempt without a verdict ends FAULT_STUCK_OPEN (R63). -/
theorem test_verify_deadline :
    (after (.verifyDeadline 0) (live (operating .on { opOf .close .verifying with attempt := .second }
      (ready 1000000)))).position 0 = .faultStuckOpen := by decide

/-- The strip's hold-off expiry is taken once. -/
theorem test_hold_off :
    (after (.holdOffExpiry .strip) ((ready 819200).updSched fun x => { x with holdOff := some 819200 })).sched.holdOff
      = none := by decide

/-- LOAD_TIMEOUT at the deadline of 60 s (R102). -/
theorem test_admission_deadline :
    ((after (.admissionDeadlineExpiry 0) (live (waiting .on .close (ready 491520000)))).slot 0).result
      = .loadTimeout := by decide

/-- The admission deadline of a closing that joined at millisecond 0 and joins again: its own while that is a second
ahead, then a second from now (R89). -/
theorem test_join_deadline :
    deadlineAtJoin State.reset 0 = 60000 ∧ deadlineAtJoin (ready (59000 * 8192)) 0 = 60000
      ∧ deadlineAtJoin (ready (59001 * 8192)) 0 = 60001 := by decide

/-- A posting waits as STOPPED while the strip is STOPPED (R88). -/
theorem test_posting_on :
    ((after (.postingOn 0) State.reset).entry 0).map Entry.wait = some .stopped := by decide

/-- An OFF on an open outlet ends DONE_NO_CHANGE (R106). -/
theorem test_posting_off :
    ((after (.postingOff 0) (State.reset.setPosition 0 .open)).slot 0).result = .doneNoChange := by decide

/-- A CYCLE on an open outlet is refused NOT_ON (R106). -/
theorem test_posting_cycle :
    ((after (.postingCycle 0) (State.reset.setPosition 0 .open)).slot 0).refusal = .notOn := by decide

/-- A CANCEL without a plan is refused (R106). -/
theorem test_posting_cancel :
    ((after (.postingCancel 0) State.reset).slot 0).result = .nothingToCancel := by decide

/-- An unknown kind is written as its value (R107). -/
theorem test_posting_unknown :
    ((after (.postingUnknownKind 0 9) State.reset).slot 0).kind = 9 := by decide

/-- The dwell of a CYCLE runs out into its closing (R99). -/
theorem test_dwell :
    ((after (.dwellExpiry 0) (planned .cycle .dwell ((ready 100).setPosition 0 .open))).entry 0).map
      Entry.direction = some .close := by decide

/-- The membership set 0x0005: two members requested, both queued for an ON. -/
theorem test_group_on :
    (after .groupOn { State.reset with xm := [⟨0x5C, 5⟩] }).plans.group.requested = 2
      ∧ (after .groupOn { State.reset with xm := [⟨0x5C, 5⟩] }).plans.group.taken = 2 := by decide

/-- A group CANCEL without a group is refused (R113). -/
theorem test_group_cancel : (after .groupCancel State.reset).plans.group.result = .nothingToCancel := by decide

/-- A group OFF with no members ends at the posting (R116). -/
theorem test_group_off_empty : (after .groupOff State.reset).plans.group.result = .groupDone := by decide

/-- A CYCLE of a member whose position is UNKNOWN is refused (R114). -/
theorem test_group_cycle :
    (after .groupCycle { State.reset with xm := [⟨0x5C, 1⟩] }).plans.group.refused = 1 := by decide

/-- An unknown group kind (R113). -/
theorem test_group_unknown : (after (.groupUnknownKind 0) State.reset).plans.group.refusal = .badKind := by decide

/-- A branch sense is debounced for 20 ms, then returns for 5 s (R123, R138). -/
theorem test_branch_sense :
    ((after (.branchSenseChange 0 true) (ready 5)).gbranch 0).debounceFrom = some 5
      ∧ ((after (.debounceExpiry 0) ((ready 163845).updBranch 0 fun b =>
          { b with input := true, debounceFrom := some 5 })).gbranch 0).state = .returning := by decide

/-- The return timer enters LIVE after 5 s (R138). -/
theorem test_return_timer :
    ((after (.returnTimerExpiry 0) ((ready 40960000).updBranch 0 fun b =>
      { b with state := .returning, returnFrom := some 0 })).gbranch 0).state = .live := by decide

/-- A kick of outlet 3 (R153). -/
theorem test_kick : (after (.kick 3) State.reset).watch.kickWord = 3
    ∧ (after (.kick 49) State.reset).watch.kickWord = 0 := by decide

/-- A watch in a state, with the tick's declaration waiting. -/
def watched (st : WatchState) (e : TickEvent) : State :=
  { (State.reset.setPosition 0 .closed).updOutletWatch 0 fun w => { w with state := st, attempts := 1 } with
    tickDue := [e] }

/-- The grace end enters WATCHING (R154). -/
theorem test_grace_end : ((after (.graceEnd 0) (watched .grace (.graceEnd 0))).owatch 0).state = .watching := by decide

/-- The stall takes the WATCH CYCLE and counts the attempt (R155). -/
theorem test_stall :
    ((after (.stallDeclaration 0) (watched .watching (.stall 0))).owatch 0).state = .recovering
      ∧ ((after (.stallDeclaration 0) (watched .watching (.stall 0))).owatch 0).attempts = 2 := by decide

/-- A posting at the declaring tick: OFF and CYCLE take STALLED to IDLE with the attempt kept, and attempts that are
used up give up (R155). -/
theorem test_stall_creation :
    (let t := after (.postingOff 0) (watched .watching (.stall 0));
      (t.owatch 0).state = .idle ∧ (t.owatch 0).resume = .stalled ∧ (t.owatch 0).attempts = 1
        ∧ (t.plan 0).map Plan.origin = some .posted ∧ Pends t (outletSource 0) causeStall)
      ∧ ((after (.postingCycle 0) ((watched .watching (.stall 0)).updOutletWatch 0 fun w =>
        { w with attempts := 2 })).owatch 0).state = .givenUp
      ∧ ((after (.kick 1) (watched .watching (.stall 0))).owatch 0).state = .recovering := by decide

/-- The recovery span gives the attempts back (R156). -/
theorem test_recovery_span :
    ((after (.recoverySpanReached 0) (watched .watching (.recoverySpan 0))).owatch 0).attempts = 0 := by decide

/-- START arms; an unknown command is refused (R167). -/
theorem test_capture_start : (after .captureStart State.reset).capture.state = .armed
    ∧ (after (.captureUnknownCommand 7) State.reset).capture.refusal = .badKind := by decide

/-- ABORT and the arm timer end an armed capture (R168, R172). -/
theorem test_capture_abort :
    (after .captureAbort (after .captureStart State.reset)).capture.endReason = .aborted
      ∧ (after .armTimeout { after .captureStart State.reset with now := 4915200000 }).capture.endReason
        = .noTrigger := by decide

/-- The worked APPLY of outlet 5: pulse 60, settle 30 and quiet limit 5 become 50, 30 and 10 (09). -/
theorem test_outlet_apply :
    let s := { State.reset with xm := [⟨outletBase 4 + 0x64, 60⟩, ⟨outletBase 4 + 0x65, 30⟩, ⟨outletBase 4 + 0x70, 5⟩] }
    let t := after (.outletApply 4) s
    (t.ocfg 4).coilPulse = 50 ∧ (t.ocfg 4).settle = 30 ∧ (t.ocfg 4).quietLimit = 10
      ∧ t.port.outletService[(4 : OutletIx)].result = .clamped := by decide

/-- A branch APPLY over zeroed fields clamps the rated current up to 1,000 mA. -/
theorem test_branch_apply : ((after (.branchApply 0) State.reset).bcfg 0).rated = 1000 := by decide

/-- A strip APPLY over zeroed fields. -/
theorem test_strip_apply : (after .stripApply State.reset).settings.strip.reRaise = 5 := by decide

/-- The worked saturated outlet is cleared (02). -/
theorem test_clear_energy :
    let s := State.reset.updOutletMeter 39 fun m => { m with wh := 4294967295, residue := 158968973540 }
    ((after (.clearEnergy 39) s).ometer 39).wh = 0 ∧ ((after .clearAllEnergy s).ometer 39).residue = 0 := by decide

/-- REARM_WATCH gives the attempts back (R160). -/
theorem test_rearm : ((after (.rearmWatch 0) { watched .givenUp (.stall 0) with tickDue := [] }).owatch 0).state
    = .idle := by decide

/-- CLEAR_FAULT leaves UNKNOWN (R65). -/
theorem test_clear_fault :
    (after (.clearFault 0) (State.reset.setPosition 0 .faultStuckOpen)).position 0 = .unknown := by decide

/-- An unknown service ends BAD_SERVICE (R179). -/
theorem test_unknown_service :
    (after (.unknownService (.branch 3) 9) State.reset).port.branchService[(3 : BranchIx)].result = .badService := by
  decide

/-- RUN and the mode of a CONTROL write (R182). -/
theorem test_control :
    (after (.runSet 5) State.reset).port.running = true ∧ (after (.runSet 5) State.reset).port.mode = .levelHigh
      ∧ (after (.runClear 0) (after (.runSet 1) State.reset)).port.running = false
      ∧ (after (.attentionMode 8) State.reset).port.mode = .pulse := by decide

/-- A warm reset keeps the mode and stops the strip (R184, R194). -/
theorem test_warm_reset :
    (after (.warmReset 2) (after (.runSet 5) State.reset)).port.running = false
      ∧ (after (.warmReset 2) (after (.runSet 5) State.reset)).port.mode = .levelHigh := by decide

/-- The first POLL after reset returns BRANCH_DEAD of branch 1, rank 4 (R189, R193). -/
theorem test_poll : (after .pollRead State.reset).port.pollValue = 0x8404 := by decide

/-- The worked drain: outlet 40, OP_DONE and OVERCURRENT, before outlet 3 (10). -/
theorem test_poll_outlets :
    let s := (((State.reset.updNotices fun n => { n with outletRotation := 19, sources := Vector.replicate 58 {} })
      |>.updNotice (outletSource 2) fun n => { n with pending := 1 }).updNotice (outletSource 39)
        fun n => { n with pending := 0x81, held := 0x80 })
    (after .pollRead s).port.pollValue = 0xB181 ∧ (after .pollRead s).notices.outletRotation = 39
      ∧ noticeWord (after .pollRead s) (outletSource 39) = 0x8000 := by decide

/-- A re-raise moves the cause back (R190). -/
theorem test_re_raise :
    ((after (.reRaise 8 0) { State.reset.updNotice 8 fun n => { n with taken := 1, held := 1 } with
      tickDue := [.reRaise 8 0] }).notice 8).pending = 5 := by decide

/-- The attention pulse ends, and the line rests high (R192). -/
theorem test_attention_pulse_end :
    let s := ((ready 17).updPort fun p => { p with mode := .pulse }).updNotices fun n => { n with pulseUntil := some 17 }
    attentionLine s = false ∧ attentionLine (after .attentionPulseEnd s) = true := by decide

/-- A plain write of a tag is stored; a write to a part-owned word is dropped (R176). -/
theorem test_host_write :
    readXm (after (.hostWrite (.xm (0x442 / 2)) 7) State.reset) 0x442 = 7
      ∧ (after (.hostWrite (.xm (0x400 / 2)) 7) State.reset).xm = [] := by decide

/-- The flashing patterns at 130 ms (R195). -/
theorem test_flash :
    (after .flashingPatternTransition (ready (130 * 8192))).notices.flash
      = { locate := false, fault := true, stall := true, plan := true } := by decide

/-- A publication finishes and each record's sequence word takes one bracket (R40). -/
theorem test_publication :
    let t := after .publicationComplete (State.reset.updRecords fun r => { r with finishBy := some 8192 })
    t.records.finishBy = none ∧ t.records.strip.header.seq = 2 := by decide

/-- The reset pin holds and releases (R185). -/
theorem test_power_on_reset :
    (after (.powerOnReset true) State.reset).resetHeld = true
      ∧ after (.powerOnReset false) (after (.powerOnReset true) State.reset) = State.reset := by decide

/-! ### States and operands that meet the premises of the statements -/

/-- A publication in progress at a half-bracket. -/
def publishing (turn : Nat) (s : State) : State :=
  s.updRecords fun r => { r with finishBy := some 8192, turn := turn }

/-- StepRunsFrontCommand: the four cases of the empty queue, with a publication before its last half-bracket. -/
theorem witness_StepRunsFrontCommand :
    (State.reset.pending = [] ∧ { State.reset with resetHeld := true }.resetHeld = true)
      ∧ (State.reset.resetHeld = false ∧ dueCommands State.reset = [] ∧ State.reset.records.finishBy = none)
      ∧ (dueCommands (publishing 115 (ready 5)) = [] ∧ (publishing 115 (ready 5)).records.finishBy ≠ none)
      ∧ (ready 2560).pending = [] ∧ dueCommands (ready 2560) = [.slotStart] := by decide

/-- EveryCommandAnswers: a command that is no reset and no event of a tick. -/
theorem witness_EveryCommandAnswers :
    State.reset.resetHeld = false ∧ (∀ held, Instr.kick 3 ≠ .powerOnReset held)
      ∧ ∀ e, Instr.kick 3 ≠ tickCommand e :=
  ⟨rfl, nofun, fun e => by cases e <;> nofun⟩

/-- ResetPinHoldsAndReleases: a part held in reset, and a command it drops. -/
theorem witness_ResetPinHoldsAndReleases :
    { State.reset with resetHeld := true }.resetHeld = true ∧ (∀ held, Instr.tick ≠ .powerOnReset held)
      ∧ (∀ b level, Instr.tick ≠ .branchSenseChange b level) ∧ Instr.tick ≠ .pollRead :=
  ⟨rfl, nofun, nofun, nofun⟩

/-- The state after the posting of outlet 1: a plan with its entry. -/
def posted : State := after (.postingOn 0) State.reset

/-- The invariants hold of states with a plan, an entry, a stored byte and a pending cause. -/
theorem witness_invariants :
    MemoryCanonical { State.reset with xm := [⟨0x442, 7⟩] } ∧ ReservationsBounded (operating .on (opOf .close .aiming)
      State.reset) ∧ RanksDistinct State.reset ∧ EnergyBounded State.reset ∧ ReadingsBounded State.reset
      ∧ (State.reset.ometer 0).wh = 0 ∧ NoticesSound State.reset ∧ AttemptsBounded (watched .watching (.stall 0)) := by
  refine ⟨by unfold MemoryCanonical; decide, by unfold ReservationsBounded; decide, by unfold RanksDistinct; decide, by unfold EnergyBounded; decide,
    by unfold ReadingsBounded ReadingBounds; decide, by decide, by unfold NoticesSound NoticeSound; decide,
    by unfold AttemptsBounded; decide⟩

/-- StepKeepsSettingsInRange: the defaults. -/
theorem witness_StepKeepsSettingsInRange : SettingsInRange State.reset := by
  unfold SettingsInRange OutletInRange BranchInRange PhaseInRange StripInRange; decide

/-- StepKeepsCoupled: outlet 1 with its plan and entry. -/
theorem witness_StepKeepsCoupled_at :
    posted.entry 0 ≠ none ∧ posted.op 0 = none ∧ (posted.plan 0).map Plan.step = some .queuedClose := by decide

/-- A step from such a state has a next state. -/
theorem witness_step : ∃ t, step posted = .next t := ⟨_, rfl⟩

/-- WattHoursNeverDecrease: a close. -/
theorem witness_WattHoursNeverDecrease :
    WellFormed .closePendingTimeout = true ∧ (∀ held, Instr.closePendingTimeout ≠ .powerOnReset held)
      ∧ Instr.closePendingTimeout ≠ .clearEnergy 0 ∧ Instr.closePendingTimeout ≠ .clearAllEnergy
      ∧ ∃ t, exec .closePendingTimeout workedClose = .next t :=
  ⟨rfl, nofun, nofun, nofun, _, rfl⟩

/-- EdgeWithoutCycle: no reference; the last ignored count; the first counts outside the range on either side; the
eighth rejection. -/
theorem witness_EdgeWithoutCycle :
    (Ready State.reset ∧ State.reset.line.edgeRef = none)
      ∧ (Ready (locked 40959) ∧ (locked 40959).line.edgeRef = some 0
        ∧ (locked 40959).now - 0 < (locked 40959).line.period / 4)
      ∧ (TimedEdge (locked 126030) 126030 ∧ 126030 < 126031 ∧ (locked 126030).line.rejectRun + 1 < 8)
      ∧ (TimedEdge (locked 182045) 182045 ∧ 182044 < 182045)
      ∧ TimedEdge ((locked 126030).updLine fun l => { l with rejectRun := 7 }) 126030
      ∧ ((locked 126030).updLine fun l => { l with rejectRun := 7 }).line.tracker = .locked
      ∧ 8 ≤ ((locked 126030).updLine fun l => { l with rejectRun := 7 }).line.rejectRun + 1
      ∧ ((locked 126030).updLine fun l => { l with rejectRun := 7 }).line.closePending = none
      ∧ ((locked 126030).updLine fun l => { l with rejectRun := 7, closePending := some 5 }).line.closePending ≠ none := by
  refine ⟨by decide, by decide, ⟨⟨0, by decide⟩, by decide⟩, ⟨⟨0, by decide⟩, by decide⟩, ⟨0, by decide⟩, by decide⟩

/-- LockedEdgeAccepted: both ends of the range, with and without a pending close. -/
theorem witness_LockedEdgeAccepted :
    (Ready (locked 126031) ∧ (locked 126031).line.tracker = .locked ∧ TimedEdge (locked 126031) 126031
        ∧ (locked 126031).line.closePending = none)
      ∧ Ready ((locked 182044).updLine fun l => { l with closePending := some 5 })
      ∧ TimedEdge ((locked 182044).updLine fun l => { l with closePending := some 5 }) 182044 := by
  refine ⟨⟨by decide, by decide, ⟨0, by decide⟩, by decide⟩, by decide, ⟨0, by decide⟩⟩

/-- A tracker with a lock run, its last edge at count 0. -/
def running (tr : Tracker) (prev : Option Nat) (run now : Nat) : State :=
  (ready now).updLine fun l => { l with tracker := tr, edgeRef := some 0, prevCandidate := prev, lockRun := run }

/-- LockRun: a first candidate; one just inside and one just outside 1/16 of the last; the fourth; HOLDOVER. -/
theorem witness_LockRun :
    TimedEdge (running .searching none 0 163190) 163190
      ∧ (TimedEdge (running .searching (some 160000) 3 170000) 170000 ∧ 170000 - 160000 ≤ 160000 / 16 ∧ 4 ≤ 3 + 1)
      ∧ (TimedEdge (running .searching (some 160000) 3 170001) 170001 ∧ 160000 / 16 < 170001 - 160000)
      ∧ TimedEdge (running .holdover none 2 126031) 126031 ∧ TimedEdge (running .holdover none 3 182044) 182044
      ∧ Ready (running .holdover none 3 182044) := by
  refine ⟨⟨0, by decide⟩, ⟨⟨0, by decide⟩, by decide⟩, ⟨⟨0, by decide⟩, by decide⟩, ⟨0, by decide⟩, ⟨0, by decide⟩,
    by decide⟩

/-- EdgeDeadlineEntersHoldover: at the deadline, with and without a pending close; a count before; not LOCKED. -/
theorem witness_EdgeDeadlineEntersHoldover :
    (Ready (locked 819200) ∧ (locked 819200).line.deadline = some 819200 ∧ 819200 ≤ (locked 819200).now
        ∧ (locked 819200).line.closePending = none)
      ∧ ((locked 819200).updLine fun l => { l with closePending := some 5 }).line.closePending ≠ none
      ∧ (∀ d, (locked 819199).line.deadline = some d → (locked 819199).now < d)
      ∧ State.reset.line.tracker ≠ .locked := by
  refine ⟨by decide, by decide, fun d h => ?_, by decide⟩
  cases h; decide

/-- CycleFollowsCycle: both rows at their first count and the count before, with a pulse that the second start makes
due. -/
theorem witness_CycleFollowsCycle :
    (Ready (locked 163840) ∧ (locked 163840).line.tracker = .locked
        ∧ (locked 163840).line.cycleStart + (locked 163840).line.period ≤ (locked 163840).now)
      ∧ (Ready (ready 163840) ∧ (ready 163840).line.tracker ≠ .locked
        ∧ (ready 163840).line.cycleStart + (ready 163840).line.period ≤ (ready 163840).now)
      ∧ (ready 163839).now < (ready 163839).line.cycleStart + (ready 163839).line.period
      ∧ (operating .on (opOf .close .aiming) (locked 163840)).op 0 = some (opOf .close .aiming)
      ∧ (opOf .close .aiming).stage = .aiming ∧ (opOf .close .aiming).deferred = false
      ∧ 1 ≤ (opOf .close .aiming).cyclesSeen := by decide

/-- SlotStarts: the last slot; a slot that is an operation's pulse slot; no slot left; too early. -/
theorem witness_SlotStarts :
    (Ready ((ready 161280).updLine fun l => { l with nextSlot := 63 })
        ∧ 0 + 63 * (ready 0).line.period / 64 ≤ (ready 161280).now)
      ∧ ((opOf .close .aiming).target = some 35 ∧ (opOf .close .aiming).advance ≤ 63
        ∧ 19 = ((35 : SlotIx).val + 64 - (opOf .close .aiming).advance) % 64
        ∧ 0 + 19 * (ready 0).line.period / 64 ≤ (ready 48640).now)
      ∧ 64 ≤ ((ready 0).updLine fun l => { l with nextSlot := 64 }).line.nextSlot
      ∧ (ready 2559).now < (ready 2559).line.cycleStart + (ready 2559).line.nextSlot * (ready 2559).line.period / 64 := by
  decide

/-- CompleteSlotIsDelivered: with a slot in flight after none and after a complete one, and with none. -/
theorem witness_CompleteSlotIsDelivered :
    (Ready State.reset ∧ State.reset.line.inFlight ≠ none ∧ State.reset.line.prevSamples = none)
      ∧ (State.reset.updLine fun l => { l with inFlight := none }).line.inFlight = none
      ∧ (State.reset.updLine fun l => { l with prevSamples := some (Vector.replicate 51 0xFFFF) }).line.prevSamples
        = some (Vector.replicate 51 0xFFFF)
      ∧ currentSample (Vector.replicate 51 0xFFFF) 0 < 0 ∧ 0 ≤ currentSample (Vector.replicate 51 0) 0 := by decide

/-- TickInLocked: a count before the tick and at it. -/
theorem witness_TickInLocked :
    (Ready (locked 8191999) ∧ (locked 8191999).now < (locked 8191999).line.nextTick)
      ∧ Ready (locked 8192000) ∧ (locked 8192000).line.nextTick ≤ (locked 8192000).now
      ∧ (locked 8192000).line.tracker = .locked := by decide

/-- ArithmeticConventions: a positive divisor. -/
theorem witness_ArithmeticConventions : 0 < 1 := by decide

/-- WindowClosesAtLimitAndTick: the limit, a count before it, and a tick in SEARCHING. -/
theorem witness_WindowClosesAtLimitAndTick :
    (Ready workedClose ∧ workedClose.line.closePending = some 8192000 ∧ 8192000 + 182044 ≤ workedClose.now)
      ∧ (∀ d, { workedClose with now := 8374043 }.line.closePending = some d
        → { workedClose with now := 8374043 }.now < d + 182044)
      ∧ (ready 8192000).line.tracker ≠ .locked ∧ (ready 8192000).line.nextTick ≤ (ready 8192000).now := by
  refine ⟨by decide, fun d h => ?_, by decide⟩
  cases h; decide

/-- ClosesWindow, the five ways: the limit; a tick in SEARCHING; an accepted edge, the eighth rejected one and the edge
deadline in LOCKED, with what each makes before its close. -/
theorem witness_ClosesWindow :
    let edge := workedClose.updLine fun l => { l with edgeRef := some (8374044 - 126031) }
    let reject := workedClose.updLine fun l => { l with edgeRef := some (8374044 - 126030), rejectRun := 7 }
    let holdover := workedClose.updLine fun l => { l with deadline := some 8374044 }
    let tick := workedClose.updLine fun l => { l with tracker := .searching }
    (ClosesWindow .closePendingTimeout workedClose ∧ ClosesWindow .tick tick ∧ ClosesWindow .lineSyncEdge edge
      ∧ ClosesWindow .lineSyncEdge reject ∧ ClosesWindow .edgeDeadlineExpiry holdover)
    ∧ (Ready edge ∧ Ready reject ∧ Ready holdover ∧ Ready tick ∧ 0 < workedClose.meter.n)
    ∧ ((beforeClose .tick tick).line.seconds = 1 ∧ (beforeClose .lineSyncEdge edge).line.cycleNo = 2
      ∧ (beforeClose .lineSyncEdge reject).line.tracker = .holdover
      ∧ (beforeClose .edgeDeadlineExpiry holdover).line.tracker = .holdover) :=
  ⟨⟨.inl ⟨rfl, 8192000, by decide⟩, .inr (.inl (by decide)),
    .inr (.inr ⟨by decide, by decide, .inr ⟨rfl, 126031, ⟨_, rfl, by decide⟩, by decide⟩⟩),
    .inr (.inr ⟨by decide, by decide, .inr ⟨rfl, 126030, ⟨_, rfl, by decide⟩, by decide⟩⟩),
    .inr (.inr ⟨by decide, by decide, .inl ⟨rfl, 8374044, by decide⟩⟩)⟩, by decide, by decide⟩

/-- An opening of outlet 1 that waits with every reservation free, in a state that `f` makes. -/
def opening (f : State → State) : State := f ((waiting .off .open State.reset).setPosition 0 .closed)

/-- OpeningGranted, at a close, at STOPPED to RUNNING and at a return to LIVE: the one opening that waits, which has
joined in an earlier millisecond, is dispatched. -/
theorem witness_OpeningGranted :
    (let s := opening fun s => closing (live s);
      Ready s ∧ s.port.running = true ∧ s.sched.retry = [] ∧ reservationsHeld s < 4
        ∧ s.entry 0 = some (entryOf .open) ∧ s.op 0 = none ∧ s.plan 0 ≠ none ∧ ¬ Unresolved (s.position 0)
        ∧ (entryOf .open).enteredAt ≠ s.ms ∧ (∀ x, x ≠ 0 → s.entry x = none)
        ∧ ((after .closePendingTimeout s).op 0).map Op.stage = some .aiming)
      ∧ ((after (.runSet 1) (opening fun s => { s with now := 8192 })).op 0).map Op.stage = some .aiming
      ∧ (let s := opening fun s =>
          (live { s with now := 40960000 }).updBranch 0 fun b => { b with state := .returning, returnFrom := some 0 };
        s.port.running = true ∧ (s.gbranch 0).returnFrom = some 0 ∧ s.entry 0 = some (entryOf .open)
          ∧ ((after (.returnTimerExpiry 0) s).op 0).map Op.stage = some .aiming) := by decide

/-- CloseComputesReadings and CloseAddsEnergy: a close with samples in which outlet 1 reads a load, outlet 2 creeps
and outlet 40 is one watt-hour below its limit. -/
theorem witness_CloseComputesReadings :
    0 < workedClose.meter.n
      ∧ (workedClose.settings.strip.creep ≤ roundDiv (isqrt ((workedClose.ometer 0).sII.toNat / workedClose.meter.n)
        * (workedClose.ocfg 0).currentGain) 32768)
      ∧ roundDiv (isqrt ((workedClose.ometer 1).sII.toNat / workedClose.meter.n)
        * (workedClose.ocfg 1).currentGain) 32768 = 0 := by decide

/-- CloseAddsEnergy: a saturated outlet, and one that does not creep. -/
theorem witness_CloseAddsEnergy :
    0 < workedClose.meter.n
      ∧ ((workedClose.updOutletMeter 1 fun m => { m with wh := 4294967295 }).ometer 1).wh = 4294967295
      ∧ ((after .closePendingTimeout workedClose).ometer 0).creep = false ∧ (workedClose.ometer 0).wh ≠ 4294967295
      ∧ ((after .closePendingTimeout workedClose).ometer 1).creep = true := by decide

/-- StaleCloseHoldsReadings, and CloseHandsConditions with its first part: a close without samples. -/
theorem witness_StaleCloseHoldsReadings :
    Ready (closing State.reset) ∧ (closing State.reset).line.closePending = some 8192000
      ∧ 8192000 + 182044 ≤ (closing State.reset).now ∧ (closing State.reset).meter.n = 0 := by decide

/-- Outlet 1 with its qualified sense. -/
def sensed (x : Sense) (s : State) : State := s.updRelay 0 fun r => { r with sense := x }

/-- CloseHandsConditions, the positions: an outlet of a LIVE branch that its sense resolves while its closing or its
opening waits, one whose position stays, one of a DEAD branch. -/
theorem witness_CloseHandsConditions :
    (let s := sensed .present (closing (live (waiting .on .close State.reset)));
      Ready s ∧ s.line.closePending = some 8192000 ∧ 8192000 + 182044 ≤ s.now ∧ s.op 0 = none
        ∧ s.branchStateOf 0 = .live ∧ Unresolved (s.position 0) ∧ (s.marks 0).shed = false
        ∧ (s.marks 0).release = false ∧ (s.ocfg 0).shedRank = 0 ∧ s.plan 0 = some (planOf .on .queuedClose)
        ∧ s.relay[(0 : OutletIx)].sense = .present)
      ∧ (let s := sensed .absent (closing (live (waiting .off .open State.reset)));
        s.plan 0 = some (planOf .off .queuedOpen) ∧ s.relay[(0 : OutletIx)].sense = .absent)
      ∧ ¬ Unresolved ((State.reset.setPosition 0 .closed).position 0)
      ∧ (closing State.reset).branchStateOf 0 = .dead := by decide

/-- PublicationWritesRecords: none in progress; one before its last half-bracket; one with the bracket of outlet 1
open and a write that waits for it. -/
theorem witness_PublicationWritesRecords :
    (Ready State.reset ∧ State.reset.records.finishBy = none)
      ∧ (let s := publishing 115 State.reset;
        Ready s ∧ s.records.finishBy ≠ none ∧ s.records.turn < 116 ∧ s.pending = [] ∧ dueCommands s = [])
      ∧ (let s := (publishing 21 State.reset).updRecords fun r => { r with deferred := [.energyClear 0] };
        Ready s ∧ s.records.finishBy ≠ none ∧ s.records.deferred = [.energyClear 0]) := by decide

/-- EnergyClears: no open bracket; the first and the last half of a publication that has an outlet's bracket open, and
their neighbours. -/
theorem witness_EnergyClears :
    (Ready State.reset ∧ ∀ o, ¬ BracketOpen State.reset o)
      ∧ (BracketOpen (publishing 21 State.reset) 0 ∧ ¬ BracketOpen (publishing 20 State.reset) 0
        ∧ ¬ BracketOpen (publishing 22 State.reset) 0)
      ∧ BracketOpen (publishing 115 State.reset) 47 ∧ Ready (publishing 115 State.reset) := by decide

/-- Outlet 1 closed on a branch with loss policy RELEASE. -/
def lossy (s : State) : State :=
  (s.setPosition 0 .closed).updSettings fun c =>
    { c with branches := upd c.branches 0 fun b => { b with releasePolicy := true } }

/-- PulseStartIsTested: an opening and a second closing at their moment, one before it; a first closing that may
start, one with the strip spacing outstanding, and one whose strip is STOPPED. -/
theorem witness_PulseStartIsTested :
    (Ready (operating .off (opOf .open .aiming) State.reset)
        ∧ (operating .off (opOf .open .aiming) State.reset).op 0 = some (opOf .open .aiming)
        ∧ (opOf .open .aiming).pulseDue = true)
      ∧ { opOf .close .aiming with attempt := .second }.attempt = .second
      ∧ { opOf .close .aiming with pulseDue := false }.pulseDue = false
      ∧ ((live (operating .on (opOf .close .aiming) State.reset)).isLive (branchOf 0) = true
        ∧ (live (operating .on (opOf .close .aiming) State.reset)).port.running = true
        ∧ branchSpacingPassed (live (operating .on (opOf .close .aiming) State.reset)) (branchOf 0) = true
        ∧ stripSpacingPassed (live (operating .on (opOf .close .aiming) State.reset)) = true)
      ∧ stripSpacingPassed ((live (operating .on (opOf .close .aiming) State.reset)).updSched fun x =>
        { x with lastStart := some 0 }) = false
      ∧ (operating .on (opOf .close .aiming) State.reset).port.running = false
      ∧ ((operating .on (opOf .close .aiming) State.reset).plan 0) = some (planOf .on .closing)
      ∧ (let pl := { planOf .on .closing with heldCancel := true }
        let s := (operating .on (opOf .close .aiming) State.reset).setPlan 0 (some pl);
        s.plan 0 = some pl ∧ s.entry 0 = none ∧ 0 ∉ s.sched.retry ∧ ¬ Releases s 0
          ∧ Releases (after (.pulseStart 0) (lossy s)) 0)
      ∧ (let pl := { planOf .off .closing with waiting := true }
        let s := (operating .on (opOf .close .aiming) State.reset).setPlan 0 (some pl);
        s.plan 0 = some pl ∧ pl.heldCancel = false ∧ isOpen ((s.setPosition 0 .openUnverified).position 0) = true
          ∧ (s.setPosition 0 .faultStuckClosed).position 0 = .faultStuckClosed
          ∧ isOpen (s.position 0) = false ∧ s.position 0 ≠ .faultStuckClosed) := by decide

/-- PulseEndSettles: at the pulse end, abandoned at the pulse end, and a count before it. -/
theorem witness_PulseEndSettles :
    (let s := operating .on { opOf .close .pulsing with endsAt := 335360 } (ready 335360);
      Ready s ∧ s.op 0 = some { opOf .close .pulsing with endsAt := 335360 } ∧ s.entry 0 = none
        ∧ 0 ∉ s.sched.retry ∧ s.plan 0 = some (planOf .on .closing) ∧ ¬ Releases s 0)
      ∧ { opOf .close .pulsing with abandoned := true }.abandoned = true
      ∧ (ready 335359).now < { opOf .close .pulsing with endsAt := 335360 }.endsAt := by decide

/-- SettleEndTestsBranch: a LIVE branch; a DEAD one, for an ON whose outlet is released and one whose is not, a CYCLE's
opening, a held cancel and a waiting OFF. -/
theorem witness_SettleEndTestsBranch :
    (live (operating .on (opOf .close .settling) (ready 5))).isLive (branchOf 0) = true
      ∧ (let s := operating .on (opOf .close .settling) (ready 5);
        Ready s ∧ s.op 0 = some (opOf .close .settling) ∧ s.isLive (branchOf 0) = false ∧ s.entry 0 = none
          ∧ s.plan 0 = some (planOf .on .closing) ∧ (planOf .on .closing).waiting = false
          ∧ ¬ Releases (after (.settleEnd 0) s) 0 ∧ Releases (after (.settleEnd 0) (lossy s)) 0)
      ∧ ({ planOf .off .closing with waiting := true }).waiting = true
      ∧ (operating .cycle (opOf .open .settling) (ready 5)).plan 0 = some (planOf .cycle .opening)
      ∧ ({ planOf .on .closing with heldCancel := true }).heldCancel = true
      ∧ (ready 5).now < { opOf .close .settling with endsAt := 6 }.endsAt := by decide

/-- Outlet 1 verifying, with a slot in flight that its settle end precedes. -/
def verifying (k : PlanKind) (op : Op) : State :=
  ((operating k op (ready 5)).updRelay 0 fun r => { r with history := List.replicate 63 true }).updLine fun l =>
    { l with inFlight := some { slot := 0, startAt := 0, captured := false } }

/-- VerifyDeadlineActs: 63 and 64 samples at the deadline, either attempt, and a slot start before it; a slot that
brings the eighth asserted sample or the 64th unasserted one, and the sample before either. -/
theorem witness_VerifyDeadlineActs :
    (let p := { opOf .close .verifying with samples := 63 };
      let s := operating .on p (ready 5);
      Ready s ∧ s.op 0 = some p ∧ s.entry 0 = none ∧ p.stage = .verifying ∧ 256 ≤ p.slotStarts ∧ p.samples < 64
        ∧ s.plan 0 = some (planOf .on .closing) ∧ Releases (after (.verifyDeadline 0) (lossy s)) 0)
      ∧ (64 ≤ (opOf .open .verifying).samples ∧ (opOf .open .verifying).attempt = .first)
      ∧ { opOf .close .verifying with attempt := .second }.attempt = .second
      ∧ { opOf .close .verifying with slotStarts := 255 }.slotStarts < 256
      ∧ (let p := { opOf .close .verifying with asserted := 7 }
        let s := verifying .on p;
        Ready s ∧ s.line.inFlight = some { slot := 0, startAt := 0, captured := false } ∧ s.op 0 = some p ∧ p.endsAt ≤ 0
          ∧ s.entry 0 = none ∧ 0 ∉ s.sched.retry ∧ s.plan 0 = some (planOf .on .closing)
          ∧ 8 ≤ p.asserted + 1 ∧ 63 ≤ s.relay[(0 : OutletIx)].history.length)
      ∧ (let p := { opOf .open .verifying with samples := 63, quietRun := 63 }
        (verifying .off p).op 0 = some p ∧ ¬ (8 ≤ p.asserted + 0) ∧ 64 ≤ p.samples + 1 ∧ 64 ≤ p.quietRun + 1)
      ∧ (let p := { opOf .open .verifying with samples := 62, quietRun := 62 }
        ¬ (64 ≤ p.samples + 1) ∧ p.attempt = .first)
      ∧ ({ opOf .close .verifying with attempt := .second }).attempt = .second := by decide

/-- HoldOffExpiryReleases: an expiry that has come, with a deferred closing, and one that has not. -/
theorem witness_HoldOffExpiryReleases :
    (let p := { opOf .close .aiming with deferred := true }
      let s := (operating .on p (ready 819200)).updSched fun x => { x with holdOff := some 819200, lastStart := some 0 };
      Ready s ∧ holdOffOf s .strip = some 819200 ∧ 819200 ≤ s.now ∧ s.op 0 = some p ∧ p.deferred = true
        ∧ p.direction = .close ∧ p.attempt = .first ∧ s.entry 0 = none ∧ 0 ∉ s.sched.retry ∧ branchSpacingPassed s (branchOf 0) = true
        ∧ stripSpacingPassed s = true)
      ∧ holdOffOf ((ready 819199).updSched fun x => { x with holdOff := some 819200 }) .strip = some 819200
      ∧ (ready 819199).now < 819200 := by decide

/-- AdmissionDeadlineEndsPlan: the deadline, for an ON, for a CYCLE and for an outlet that is then released; an opening;
a count before. -/
theorem witness_AdmissionDeadlineEndsPlan :
    (let s := live (waiting .on .close (ready 491520000));
      Ready s ∧ s.entry 0 = some (entryOf .close) ∧ s.plan 0 = some (planOf .on .queuedClose)
        ∧ (entryOf .close).pausedSince = none ∧ (s.ms - (entryOf .close).deadline).toNat < 2147483648
        ∧ ¬ Releases s 0)
      ∧ (let s := lossy (waiting .on .close (ready 491520000)); Releases s 0 ∧ s.op 0 = none)
      ∧ (waiting .cycle .close (ready 491520000)).plan 0 = some (planOf .cycle .queuedClose)
      ∧ (entryOf .open).direction = .open
      ∧ 2147483648 ≤ ((ready 491519999).ms - (entryOf .close).deadline).toNat := by decide

/-- PassGrantsOnlyAllowedClosing: a pass that dispatches the closing of outlet 1. -/
theorem witness_PassGrantsOnlyAllowedClosing :
    (live (waiting .on .close State.reset)).entry 0 = some (entryOf .close)
      ∧ (dispatchPass (live (waiting .on .close State.reset))).entry 0 = none := by decide

/-- PassLeavesTheRest: an entry with the strip STOPPED, on a DEAD branch and on one that is not LIVE. -/
theorem witness_PassLeavesTheRest :
    ((waiting .on .close State.reset).port.running = false
        ∧ (waiting .on .close State.reset).entry 0 = some (entryOf .close))
      ∧ ((after (.runSet 1) (waiting .on .close State.reset)).branchStateOf 0 = .dead)
      ∧ ((live (waiting .on .close State.reset)).updBranch 0 fun b => { b with state := .overload }).branchStateOf 0
        ≠ .live ∧ State.reset.entry 0 = none ∧ 0 ∉ State.reset.sched.retry := by decide

/-- Four outlets whose openings joined at once, and a plan of outlet 4. -/
def crowded : State :=
  let e := some (entryOf .open)
  (((live (waiting .off .open State.reset)).setEntry 1 e).setEntry 2 e).setEntry 3 e

/-- PassLeavesTheRest, the grants: a retry with a free reservation; the first and the fourth of four openings; openings
and closings that find the four reservations taken. -/
theorem witness_PassLeavesTheRest_grants :
    (let s := (operating .on (opOf .close .retryWait) State.reset).updSched fun x => { x with retry := [0] };
      0 ∈ s.sched.retry.take (4 - reservationsHeld s) ∧ s.op 0 = some (opOf .close .retryWait) ∧ s.entry 0 = none)
      ∧ (crowded.entry 0 = some (entryOf .open) ∧ crowded.entry 3 = some (entryOf .open)
        ∧ crowded.port.running = true ∧ (entryOf .open).direction = .open
        ∧ reservationsHeld crowded + crowded.sched.retry.length + (openingsBefore crowded 0 0).length = 0
        ∧ reservationsHeld crowded + crowded.sched.retry.length + (openingsBefore crowded 3 0).length = 3)
      ∧ (let q := some (opOf .open .aiming)
        let s := (((crowded.setOp 44 q).setOp 45 q).setOp 46 q).setOp 47 q;
        4 ≤ reservationsHeld s ∧ s.port.running = true ∧ s.isLive (branchOf 0) = true
          ∧ (dispatchPass s).entry 0 = some { entryOf .open with wait := .coil }) := by decide

/-- PassLeavesTheRest, the closing: the one closing of a LIVE branch, which may be chosen, and one that waits for it. -/
theorem witness_PassLeavesTheRest_closing :
    (let s := live (waiting .on .close State.reset);
      s.entry 0 = some (entryOf .close) ∧ s.port.running = true ∧ s.sched.inAim = none ∧ stripSpacingPassed s = true
        ∧ reservationsHeld s + s.sched.retry.length + (openingsWaiting s).length < 4)
      ∧ WinsPass (live (waiting .on .close State.reset)) 0 (entryOf .close)
      ∧ (let s := (live (waiting .on .close State.reset)).setEntry 1 (some (entryOf .close));
        s.isLive (branchOf 1) = true
          ∧ ((dispatchPass s).entry 1).map Entry.wait = some .spacing) := by
  refine ⟨by decide, ⟨by decide, fun x f h hx => ?_⟩, by decide⟩
  have hn : ∀ y : OutletIx, y ≠ 0 → (live (waiting .on .close State.reset)).entry y = none := by decide
  rw [hn x hx] at h; cases h

/-- IdleRefusalEndsSlot: each refusal's position. -/
theorem witness_IdleRefusalEndsSlot :
    Ready State.reset ∧ State.reset.plan 0 = none ∧ State.reset.position 0 = .unknown
      ∧ (State.reset.setPosition 0 .faultStuckOpen).position 0 = .faultStuckOpen
      ∧ (State.reset.setPosition 0 .faultStuckClosed).position 0 = .faultStuckClosed
      ∧ (State.reset.setPosition 0 .open).position 0 = .open
      ∧ WellFormed (.postingUnknownKind 0 0) = true ∧ WellFormed (.postingUnknownKind 0 5) = true := by decide

/-- ActiveRefusalWritesLastRefusal, OffSupersedesPlan, CancelActsOnPlan and DwellRunsOut: the plans they act on. -/
theorem witness_ActiveRefusalWritesLastRefusal :
    Ready (planned .on .closing State.reset) ∧ (planned .on .closing State.reset).plan 0 = some (planOf .on .closing)
      ∧ WellFormed (.postingUnknownKind 0 9) = true := by decide

/-- PostingTaken: the positions of each row, in the reset state without a plan, an entry or an operation. -/
theorem witness_PostingTaken :
    Ready (State.reset.setPosition 0 .closed) ∧ (State.reset.setPosition 0 .closed).plan 0 = none
      ∧ (State.reset.setPosition 0 .closed).entry 0 = none ∧ (State.reset.setPosition 0 .closed).op 0 = none
      ∧ 0 ∉ (State.reset.setPosition 0 .closed).sched.retry ∧ ¬ Releases (State.reset.setPosition 0 .closed) 0
      ∧ (Releases (lossy State.reset) 0 ∧ (lossy State.reset).op 0 = none)
      ∧ ((live State.reset).port.running = true ∧ (live State.reset).sched.retry = []
        ∧ reservationsHeld (live State.reset) < 4 ∧ ∀ x, (live State.reset).entry x = none)
      ∧ (State.reset.setPosition 0 .closed).position 0 = .closed
      ∧ (State.reset.setPosition 0 .openUnverified).position 0 = .openUnverified
      ∧ State.reset.port.running = false := by decide

/-- OffSupersedesPlan: an operation in flight; none, at each kind of position. -/
theorem witness_OffSupersedesPlan :
    (operating .on (opOf .close .verifying) State.reset).op 0 = some (opOf .close .verifying)
      ∧ (let s := (planned .cycle .dwell State.reset).setPosition 0 .open;
        Ready s ∧ s.plan 0 = some (planOf .cycle .dwell) ∧ s.op 0 = none ∧ s.position 0 = .open)
      ∧ ((waiting .on .close State.reset).setPosition 0 .faultStuckClosed).position 0 = .faultStuckClosed
      ∧ (waiting .on .close State.reset).position 0 = .unknown ∧ (waiting .on .close State.reset).op 0 = none
      ∧ 0 ∉ (waiting .on .close State.reset).sched.retry := by decide

/-- CancelActsOnPlan: a queued step, DWELL and an operation's step. -/
theorem witness_CancelActsOnPlan :
    (let s := waiting .off .open State.reset;
      Ready s ∧ s.plan 0 = some (planOf .off .queuedOpen) ∧ ¬ Releases s 0 ∧ Releases (lossy s) 0 ∧ s.op 0 = none)
      ∧ ((planned .cycle .dwell State.reset).plan 0 = some (planOf .cycle .dwell)
        ∧ (planned .cycle .dwell State.reset).entry 0 = none)
      ∧ (operating .on (opOf .close .settling) State.reset).plan 0 = some (planOf .on .closing) := by decide

/-- Outlet 1 as the shed outlet of its branch in PLAN_RUNNING, its plan of origin SHED. -/
def shedding (s : State) : State :=
  (s.updBranch 0 fun g => { g with state := .shedding, shedPhase := .planRunning, shedOutlet := some 0 }).setPlan 0
    ((s.plan 0).map fun p => { p with origin := .shed })

/-- SettleEndTestsBranch, OffSupersedesPlan and CancelActsOnPlan, the shed phase: the SHED plan of the shed outlet at
its settle end, superseded and cancelled. -/
theorem witness_ShedPhaseFollows :
    (let s := shedding (operating .off (opOf .open .settling) (ready 5));
      Ready s ∧ s.op 0 = some (opOf .open .settling) ∧ s.isLive (branchOf 0) = false ∧ s.entry 0 = none
        ∧ s.plan 0 = some { planOf .off .opening with origin := .shed } ∧ PlanKind.off ≠ .cycle
        ∧ { planOf .off .opening with origin := .shed }.waiting = false
        ∧ (s.gbranch (branchOf 0)).shedPhase = .planRunning ∧ (s.gbranch (branchOf 0)).shedOutlet = some 0
        ∧ ((after (.settleEnd 0) s).gbranch 0).shedPhase = .stepping)
      ∧ (let s := shedding (waiting .off .open State.reset);
        Ready s ∧ s.plan 0 = some { planOf .off .queuedOpen with origin := .shed } ∧ ¬ Releases s 0
          ∧ Origin.shed ≠ .posted ∧ ((after (.postingCancel 0) s).gbranch 0).shedPhase = .stepping
          ∧ ((after (.postingOff 0) s).gbranch 0).shedPhase = .stepping)
      ∧ ((shedding (waiting .off .open State.reset)).gbranch (branchOf 8)).shedPhase ≠ .planRunning := by decide

/-- DwellRunsOut: at the end, with the relay open and closed, and a count before it. -/
theorem witness_DwellRunsOut :
    (let s := planned .cycle .dwell ((ready 100).setPosition 0 .open);
      Ready s ∧ s.plan 0 = some (planOf .cycle .dwell) ∧ s.entry 0 = none ∧ s.op 0 = none ∧ 0 ∉ s.sched.retry
        ∧ (planOf .cycle .dwell).dwellEnd ≤ s.now ∧ isClosed (s.position 0) = false ∧ ¬ Releases s 0)
      ∧ Releases (lossy (planned .cycle .dwell (ready 100))) 0
      ∧ isClosed ((planned .cycle .dwell ((ready 100).setPosition 0 .closed)).position 0) = true
      ∧ (ready 99).now < (planOf .cycle .dwell).dwellEnd := by decide

/-- A group in progress with a member in each kind of step: outlet 1 queued, outlet 2 in DWELL, outlet 3 closing. -/
def grouped : State :=
  (((waiting .on .close State.reset).setPlan 0 (some { planOf .on .queuedClose with groupMember := true })).setPlan 1
    (some { planOf .cycle .dwell with groupMember := true })).setPlan 2
      (some { planOf .on .closing with groupMember := true }) |>.updGroup fun g => { g with status := .active, taken := 3 }

/-- GroupPostingCounts: a strip slot that is not ACTIVE, with a member that has a plan and one that has none; a group
in progress whose members end: queued, at the admission deadline, in DWELL on a closed relay, at the settle end of a
DEAD branch and at a second attempt's verify deadline; a plan that is no member. -/
theorem witness_GroupPostingCounts :
    (let s := { planned .on .closing State.reset with xm := [⟨0x5C, 3⟩] };
      Ready s ∧ s.plans.group.status ≠ .active ∧ (groupMembers s).getLsbD 0 = true ∧ (s.plan 0).isSome = true
        ∧ (groupMembers s).getLsbD 1 = true ∧ (s.plan 1).isSome = false)
      ∧ (let s := { grouped with now := 491520000 };
        Ready s ∧ s.plans.group.status = .active
          ∧ s.plan 0 = some { planOf .on .queuedClose with groupMember := true } ∧ s.entry 0 = some (entryOf .close)
          ∧ (entryOf .close).pausedSince = none ∧ (s.ms - (entryOf .close).deadline).toNat < 2147483648
          ∧ s.plan 1 = some { planOf .cycle .dwell with groupMember := true }
          ∧ (planOf .cycle .dwell).dwellEnd ≤ s.now ∧ isClosed ((s.setPosition 1 .closed).position 1) = true)
      ∧ (let s := grouped.setOp 2 (some (opOf .close .settling));
        s.plan 2 = some { planOf .on .closing with groupMember := true } ∧ s.op 2 = some (opOf .close .settling)
          ∧ (opOf .close .settling).endsAt ≤ s.now ∧ s.isLive (branchOf 2) = false
          ∧ { opOf .close .verifying with attempt := .second }.attempt = .second)
      ∧ (let s := grouped.setPlan 3 (some (planOf .on .closing));
        s.plan 3 = some (planOf .on .closing) ∧ (planOf .on .closing).groupMember = false
          ∧ s.plans.group.taken ≠ s.plans.group.done + s.plans.group.failed + s.plans.group.cancelled) := by decide

/-- Outlets 1 to 4 are the captured set, at fault, closed, open and unknown, with a dwell override of 601 seconds. -/
def members : State :=
  let s := { State.reset with xm := [⟨0x5C, 15⟩, ⟨0x62, 0x59⟩, ⟨0x63, 2⟩] }
  (((s.setPosition 0 .faultStuckClosed).setPosition 1 .closed).setPosition 2 .open).setPosition 3 .unknown

/-- GroupPostingCounts, the members: each kind refuses, ends or queues them by their positions; outlet 5 is no
member. -/
theorem witness_GroupPostingCounts_members :
    (Ready members ∧ members.plans.group.status ≠ .active ∧ (groupMembers members).getLsbD 3 = true
        ∧ (groupMembers members).getLsbD 4 = false ∧ (∀ o, members.plan o = none ∧ members.entry o = none
          ∧ members.op o = none ∧ o ∉ members.sched.retry ∧ ¬ Releases members o))
      ∧ (let t := after .groupOn members;
        ([0, 1, 2, 3].map fun o => (t.slot o).result) = [.fault, .doneNoChange, .none, .none]
          ∧ t.entry 2 ≠ none ∧ (t.plan 3).map Plan.dwell = some 600)
      ∧ (let t := after .groupOff members;
        ([0, 1, 2, 3].map fun o => (t.slot o).result) = [.fault, .none, .doneNoChange, .none])
      ∧ (let t := after .groupCycle members;
        ([0, 1, 2, 3].map fun o => (t.slot o).result) = [.fault, .none, .notOn, .notOn]) := by decide

/-- GroupPostingCounts, the other ends: a held cancel and a waiting opening at the settle end of a DEAD branch; the one
outlet verifying, whose closing and whose opening reach their verdict; a member that a return or a stale close
resolves. -/
theorem witness_GroupPostingCounts_ends :
    (let m := { planOf .off .opening with groupMember := true, waiting := true }
      let s := (operating .off (opOf .open .settling) grouped).setPlan 0 (some m);
      Ready s ∧ s.plans.group.status = .active ∧ s.plan 0 = some m ∧ s.op 0 = some (opOf .open .settling)
        ∧ (opOf .open .settling).endsAt ≤ s.now ∧ s.isLive (branchOf 0) = false
        ∧ { m with heldCancel := true }.heldCancel = true)
      ∧ (let p := { opOf .close .verifying with asserted := 7 }
        let m := { planOf .on .closing with groupMember := true }
        let s := ((verifying .on p).setPlan 0 (some m)).updGroup fun g => { g with status := .active, taken := 3 };
        Ready s ∧ s.plan 0 = some m ∧ s.op 0 = some p ∧ (∀ x, x ≠ 0 → s.op x = none)
          ∧ s.line.inFlight = some { slot := 0, startAt := 0, captured := false } ∧ p.endsAt ≤ 0
          ∧ 8 ≤ p.asserted + 1 ∧ 63 ≤ s.relay[(0 : OutletIx)].history.length)
      ∧ (let p := { opOf .open .verifying with samples := 63, quietRun := 63 };
        p.direction = .open ∧ p.asserted + 0 < 8 ∧ 63 ≤ p.samples ∧ 63 ≤ p.quietRun)
      ∧ (let s := { sensed .present grouped with now := 40960000 }.updBranch 0 fun b =>
          { b with state := .returning, returnFrom := some 0 };
        Ready s ∧ s.plans.group.status = .active ∧ (s.gbranch 0).returnFrom = some 0
          ∧ 0 + (s.bcfg 0).returnDelay * 8192000 ≤ s.now
          ∧ (allOutlets.filter fun o => branchOf o == 0 && endsResolved s o).length = 1 ∧ 0 + 1 ≤ s.plans.group.taken)
      ∧ (let s := closing (live (sensed .present grouped));
        Ready s ∧ s.line.closePending = some 8192000 ∧ 8192000 + 182044 ≤ s.now ∧ s.meter.n = 0
          ∧ (allOutlets.filter fun o => s.isLive (branchOf o) && endsResolved s o).length = 1) := by decide

/-- GroupCancelAndRefusals: an ACTIVE strip slot with its members, of which two end at once and a third holds the
cancel, or with those two alone; and a strip slot that is not ACTIVE. -/
theorem witness_GroupCancelAndRefusals :
    Ready grouped ∧ grouped.plans.group.status = .active ∧ (∀ o, ¬ Releases grouped o)
      ∧ (Releases (lossy grouped) 0 ∧ (lossy grouped).op 0 = none
        ∧ ∀ x : OutletIx, x < 0 → ¬ Releases (lossy grouped) x)
      ∧ grouped.entry 1 = none ∧ grouped.entry 2 = none
      ∧ (grouped.plan 0).map Plan.step = some .queuedClose ∧ (grouped.plan 1).map Plan.step = some .dwell
      ∧ (grouped.plan 2).map Plan.step = some .closing ∧ State.reset.plans.group.status ≠ .active
      ∧ WellFormed (.groupUnknownKind 5) = true
      ∧ (allOutlets.filter fun o => (grouped.plan o).any fun p =>
        p.groupMember && (p.step == .queuedOpen || p.step == .queuedClose || p.step == .dwell)).length = 2
      ∧ 0 + 2 < grouped.plans.group.taken
      ∧ (grouped.updGroup fun g => { g with taken := 2 }).plans.group.taken = 0 + 2 := by decide

/-- BranchFollowsSense: a level that starts the timer, one that stops it, one without debounce, an expiry. -/
theorem witness_BranchFollowsSense :
    (Ready State.reset ∧ (State.reset.gbranch 0).input ≠ true ∧ (State.reset.bcfg 0).debounceMs ≠ 0
        ∧ (true != (State.reset.bcfg 0).lowPresent) ≠ (State.reset.gbranch 0).debounced)
      ∧ (let s := State.reset.updBranch 0 fun b => { b with input := true, debounceFrom := some 0 };
        (s.gbranch 0).input ≠ false ∧ (false != (s.bcfg 0).lowPresent) = (s.gbranch 0).debounced)
      ∧ (let s := State.reset.updSettings fun c =>
          { c with branches := upd c.branches 0 fun b => { b with debounceMs := 0 } };
        (s.gbranch 0).input ≠ true ∧ (s.bcfg 0).debounceMs = 0)
      ∧ (let s := (ready 163840).updBranch 0 fun b => { b with input := true, debounceFrom := some 0 };
        (s.gbranch 0).debounceFrom = some 0 ∧ 0 + (s.bcfg 0).debounceMs * 8192 ≤ s.now)
      ∧ (ready 163839).now < 0 + (State.reset.bcfg 0).debounceMs * 8192 := by decide

/-- Branch 1 about to lose its sense, without debounce, while outlet 1 is in a state. -/
def losing (s : State) : State :=
  (live s).updSettings fun c =>
    { c with branches := upd c.branches 0 fun b => { b with debounceMs := 0, releasePolicy := true } }

/-- BranchFollowsSense, the entry into DEAD: a closed outlet without a plan, which is released, and one that is not; a
closing that waits; a first closing and an opening in AIMING; an operation in VERIFYING whose outlet is then released
and one in SETTLING. -/
theorem witness_BranchFollowsSense_dead :
    (let s := losing (State.reset.setPosition 0 .closed);
      Ready s ∧ (s.gbranch 0).input ≠ false ∧ (false != (s.bcfg 0).lowPresent) ≠ (s.gbranch 0).debounced
        ∧ (s.bcfg 0).debounceMs = 0 ∧ (s.gbranch 0).state ≠ .dead ∧ branchOf 0 = 0 ∧ s.plan 0 = none
        ∧ s.entry 0 = none ∧ s.op 0 = none ∧ Releases (after (.branchSenseChange 0 false) s) 0
        ∧ ¬ Releases (after (.branchSenseChange 0 false) s) 1)
      ∧ (let s := losing (waiting .on .close State.reset);
        s.entry 0 = some (entryOf .close) ∧ s.op 0 = none ∧ s.plan 0 ≠ none)
      ∧ (let s := losing (operating .on (opOf .close .aiming) State.reset);
        s.op 0 = some (opOf .close .aiming) ∧ s.plan 0 = some (planOf .on .closing) ∧ s.entry 0 = none
          ∧ 0 ∉ s.sched.retry)
      ∧ (losing (operating .off (opOf .open .aiming) State.reset)).op 0 = some (opOf .open .aiming)
      ∧ (let s := losing (operating .on (opOf .close .verifying) State.reset);
        s.op 0 = some (opOf .close .verifying) ∧ Releases (after (.branchSenseChange 0 false) s) 0)
      ∧ (opOf .close .settling).stage = .settling := by decide

/-- A closing of outlet 1 that paused at millisecond 0, at millisecond 1, with the strip RUNNING. -/
def paused (st : BranchState) : State :=
  let s := (live (waiting .on .close (ready 8192))).setEntry 0 (some { entryOf .close with pausedSince := some 0 })
  ((s.setPosition 0 .open).updBranch 0 fun b => { b with state := st, returnFrom := some 0 }).updSchedBranch 0
    fun x => { x with lastStart := some 8192 }

/-- Resumed deadlines: a paused closing at DEAD to RETURNING, at an entry into LIVE with its spacing outstanding, and at
STOPPED to RUNNING on a branch that is not DEAD; and a closing that pauses at RUNNING to STOPPED. -/
theorem witness_resumedEntry :
    (let s := ((paused .dead).updBranch 0 fun b => { b with debounced := false, input := false }).updSettings fun c =>
        { c with branches := upd c.branches 0 fun x => { x with debounceMs := 0 } };
      Ready s ∧ (s.gbranch 0).input ≠ true ∧ (s.gbranch 0).state = .dead ∧ (s.bcfg 0).returnDelay ≠ 0
        ∧ s.port.running = true
        ∧ (after (.branchSenseChange 0 true) s).entry 0 = some { entryOf .close with deadline := 60001, wait := .load })
      ∧ (let s := (paused .returning).updSettings fun c =>
          { c with branches := upd c.branches 0 fun x => { x with returnDelay := 0 } };
        Ready s ∧ s.plan 0 ≠ none ∧ ¬ Unresolved (s.position 0)
          ∧ (after (.returnTimerExpiry 0) s).entry 0
            = some { entryOf .close with deadline := 60001, wait := .spacing })
      ∧ (let s := (paused .overload).updPort fun p => { p with running := false };
        (after (.runSet 1) s).entry 0 = some { entryOf .close with deadline := 60001, wait := .load })
      ∧ (let s := live (waiting .on .close (ready 8192));
        s.port.running = true ∧ s.op 0 = none ∧ (after (.runClear 0) s).entry 0
          = some { entryOf .close with pausedSince := some 1, wait := .stopped }) := by decide

/-- ReturnEntersLive: the end of the timer with a release-marked outlet that is open, at fault, or busy with a plan;
one that its sense resolves; and a count before. -/
theorem witness_ReturnEntersLive :
    (let s := (((ready 40960000).updBranch 0 fun b => { b with state := .returning, returnFrom := some 0 }).updMarks 0
        fun m => { m with release := true });
      Ready s ∧ (s.gbranch 0).returnFrom = some 0 ∧ 0 + (s.bcfg 0).returnDelay * 8192000 ≤ s.now
        ∧ branchOf 0 = 0 ∧ (s.marks 0).release = true ∧ s.plan 0 = none ∧ s.entry 0 = none ∧ s.op 0 = none
        ∧ 0 ∉ s.sched.retry ∧ isFault ((s.setPosition 0 .open).position 0) = false
        ∧ ((planned .on .closing s).plan 0 ≠ none ∧ ¬ Unresolved ((s.setPosition 0 .open).position 0)))
      ∧ isFault ((State.reset.setPosition 0 .faultStuckOpen).position 0) = true
      ∧ (let s := sensed .absent (waiting .off .open State.reset);
        s.plan 0 = some (planOf .off .queuedOpen) ∧ s.op 0 = none ∧ Unresolved (s.position 0)
          ∧ (s.marks 0).release = false ∧ s.relay[(0 : OutletIx)].sense = .absent)
      ∧ (ready 40959999).now < 0 + (State.reset.bcfg 0).returnDelay * 8192000 := by decide

/-- A branch 1 that reads 16,001 mA against its threshold of 16,000 mA. -/
def overloaded (st : BranchState) (run : Nat) : State :=
  (((live State.reset).updBranch 0 fun b => { b with state := st, overloadRun := run }).updMeter fun m =>
    { m with branches := upd m.branches 0 fun b => { b with irms := 16001 } })

/-- A close with one sample in which branch 1 reads `mA`, from a state of that branch; outlet 1 is closed and may be
shed. -/
def judged (mA : Nat) (g : GuardBranch → GuardBranch) : State :=
  closing ((((live State.reset).setPosition 0 .closed).updBranch 0 g).updMeter fun m =>
    { m with n := 1, branches := upd m.branches 0 fun b => { b with sBB := BitVec.ofNat 64 (mA * mA) } })
    |>.updSettings fun c => { c with outlets := upd c.outlets 0 fun x => { x with shedRank := 1 } }

/-- CloseJudgesOverload, the overload: the last reading that is not above the threshold of 16,000 mA and the first
that is, in LIVE, OVERLOAD and each phase of SHEDDING, with an outlet to shed and with none. -/
theorem witness_CloseJudgesOverload :
    (let s := judged 16001 id;
      Ready s ∧ s.line.closePending = some 8192000 ∧ 8192000 + 182044 ≤ s.now ∧ 0 < s.meter.n
        ∧ (s.gbranch 0).state = .live ∧ 1 < (s.bcfg 0).persistence
        ∧ (s.bcfg 0).rated * (s.bcfg 0).overload / 100 < ((after .closePendingTimeout s).bmeter 0).irms
        ∧ Sheddable s 0 0)
      ∧ (let s := judged 16000 id;
        ¬ ((s.bcfg 0).rated * (s.bcfg 0).overload / 100 < ((after .closePendingTimeout s).bmeter 0).irms))
      ∧ (let s := judged 16001 fun g => { g with state := .overload, overloadRun := 3 };
        (s.gbranch 0).state = .overload ∧ min 60 ((s.gbranch 0).overloadRun + 1) < (s.bcfg 0).persistence)
      ∧ (let s := judged 16001 fun g => { g with state := .overload, overloadRun := 4 };
        (s.gbranch 0).state = .overload ∧ (s.bcfg 0).persistence ≤ min 60 ((s.gbranch 0).overloadRun + 1))
      ∧ (let s := judged 16001 fun g => { g with state := .shedding, shedPhase := .stepping, stepCount := 1 };
        (s.gbranch 0).shedPhase = .stepping ∧ min 60 ((s.gbranch 0).stepCount + 1) < (s.bcfg 0).shedStep)
      ∧ (let s := judged 16001 fun g => { g with state := .shedding, shedPhase := .stepping, stepCount := 2 };
        (s.gbranch 0).shedPhase = .stepping ∧ (s.bcfg 0).shedStep ≤ min 60 ((s.gbranch 0).stepCount + 1))
      ∧ ((judged 16001 fun g => { g with state := .shedding, shedPhase := .planRunning }).gbranch 0).shedPhase
        = .planRunning
      ∧ ((judged 16001 fun g => { g with state := .shedding, shedPhase := .noCandidate }).gbranch 0).shedPhase
        = .noCandidate
      ∧ ∀ o, ¬ Sheddable (judged 16001 id) 1 o := by decide

/-- CloseJudgesOverload, the release restores: a release-marked outlet that is open, closed, at fault and with a plan on
a branch that stays LIVE, and one on a branch that does not. -/
theorem witness_CloseJudgesOverload_release :
    (let s := (judged 16000 id).updMarks 0 fun m => { m with release := true };
      let above := (s.bcfg 0).rated * (s.bcfg 0).overload / 100 < ((after .closePendingTimeout s).bmeter 0).irms;
      Ready s ∧ s.line.closePending = some 8192000 ∧ 8192000 + 182044 ≤ s.now ∧ 0 < s.meter.n
        ∧ (s.gbranch 0).state = .live ∧ ¬ above ∧ branchOf 0 = 0 ∧ (s.marks 0).release = true ∧ s.plan 0 = none
        ∧ s.op 0 = none ∧ s.entry 0 = none ∧ 0 ∉ s.sched.retry ∧ isClosed (positionAtClose s 0) = true
        ∧ isClosed (positionAtClose (s.setPosition 0 .open) 0) = false
        ∧ isFault ((s.setPosition 0 .open).position 0) = false
        ∧ isFault ((s.setPosition 0 .faultStuckOpen).position 0) = true
        ∧ (planned .on .closing s).plan 0 ≠ none ∧ ¬ Unresolved ((planned .on .closing s).position 0))
      ∧ (let s := (judged 16001 id).updMarks 0 fun m => { m with release := true };
        (s.bcfg 0).rated * (s.bcfg 0).overload / 100 < ((after .closePendingTimeout s).bmeter 0).irms
          ∧ (s.marks 0).release = true) := by decide

/-- CloseJudgesOverload, the operations at the change to OVERLOAD: a first closing in AIMING, and one in VERIFYING. -/
theorem witness_CloseJudgesOverload_operations :
    (let s := operating .on (opOf .close .aiming) (judged 16001 id);
      Ready s ∧ (s.gbranch 0).state = .live ∧ 1 < (s.bcfg 0).persistence ∧ s.op 0 = some (opOf .close .aiming)
        ∧ s.plan 0 = some (planOf .on .closing) ∧ branchOf 0 = 0 ∧ s.entry 0 = none ∧ 0 ∉ s.sched.retry
        ∧ (s.bcfg 0).rated * (s.bcfg 0).overload / 100 < ((after .closePendingTimeout s).bmeter 0).irms)
      ∧ (opOf .close .verifying).stage = .verifying ∧ (opOf .open .aiming).direction = .open := by decide

/-- CloseJudgesOverload, the restore: a shed mark at and above the restore threshold of 11,200 mA, the hold before and
at the delay, with an outlet to restore and with none. -/
theorem witness_CloseJudgesOverload_restore :
    (let s := (judged 11200 fun g => { g with restoreHold := some 30 }).updMarks 0 fun m => { m with shed := true };
      Ready s ∧ (s.gbranch 0).state = .live ∧ (branchOf 0 = 0 ∧ (s.marks 0).shed = true)
        ∧ ((after .closePendingTimeout s).bmeter 0).irms ≤ (s.bcfg 0).rated * (s.bcfg 0).restore / 100
        ∧ (s.bcfg 0).restoreDelay ≤ (s.gbranch 0).restoreHold.getD 0
        ∧ (∀ o, branchOf o = 0 → (s.marks o).release = false ∧ (s.plan o = none ∨ ¬ Unresolved (s.position o)))
        ∧ Restorable s 0 0 ∧ ∀ o, ¬ Restorable (s.setPosition 0 .faultStuckOpen) 0 o)
      ∧ (let s := judged 11201 id;
        ¬ (((after .closePendingTimeout s).bmeter 0).irms ≤ (s.bcfg 0).rated * (s.bcfg 0).restore / 100))
      ∧ (some 29).getD 0 < (State.reset.bcfg 0).restoreDelay := by decide

/-- KicksAndTickEvents: kicks at the ends of the range, and each declared event; a close with an outlet that is
closed on a LIVE branch, and one on a DEAD branch. -/
theorem witness_KicksAndTickEvents :
    (State.reset.resetHeld = false ∧ State.reset.tickDue = [] ∧ (48 : Word).toNat = outletNumber 47
        ∧ (1 : Word).toNat = outletNumber 0 ∧ 48 < (49 : Word).toNat)
      ∧ (((watched .grace (.graceEnd 0)).owatch 0).state = .grace
        ∧ TickEvent.graceEnd 0 ∈ (watched .grace (.graceEnd 0)).tickDue)
      ∧ TickEvent.recoverySpan 0 ∈ (watched .watching (.recoverySpan 0)).tickDue
      ∧ TickEvent.graceEnd 0 ∉ State.reset.tickDue
      ∧ (let s := judged 16000 id
        let t := after .closePendingTimeout s;
        Ready s ∧ s.plan 0 = none ∧ t.plan 0 = none ∧ s.marks 0 = { shed := false, release := false }
          ∧ s.position 0 = .closed ∧ s.branchStateOf 0 = .live ∧ t.branchStateOf 0 = .live
          ∧ s.branchStateOf 8 = .dead ∧ s.plan 8 = none ∧ t.plan 8 = none) := by decide

/-- StallDeclarationActs: a declaration with attempts left, with none left, and for an outlet that is not closed. -/
theorem witness_StallDeclarationActs :
    (let s := watched .watching (.stall 0);
      s.resetHeld = false ∧ TickEvent.stall 0 ∈ s.tickDue ∧ (s.ocfg 0).autoRecover = true
        ∧ (s.owatch 0).attempts < (s.ocfg 0).attemptLimit ∧ s.plan 0 = none ∧ isClosed (s.position 0) = true)
      ∧ (let s := (watched .watching (.stall 0)).updOutletWatch 0 fun w => { w with attempts := 2 };
        (s.ocfg 0).attemptLimit ≤ (s.owatch 0).attempts)
      ∧ isClosed (((watched .watching (.stall 0)).setPosition 0 .open).position 0) = false
      ∧ TickEvent.stall 0 ∉ State.reset.tickDue := by decide

/-- StallDeclarationActs, a plan of the declaring tick: postings and a group posting on a LIVE branch, with a stall
alone and with a recovery span before it. -/
theorem witness_StallDeclarationActs_creation :
    (let s := { live (watched .watching (.stall 0)) with xm := [⟨0x5C, 1⟩] };
      s.resetHeld = false ∧ s.tickDue = [.stall 0] ∧ s.plan 0 = none ∧ s.position 0 = .closed
        ∧ s.isLive (branchOf 0) = true ∧ s.plans.group.status ≠ .active ∧ (groupMembers s).getLsbD 0 = true
        ∧ ((after .groupOff s).owatch 0).resume = .stalled
        ∧ ((after (.postingOn 0) s).owatch 0).state = .stalled)
      ∧ { watched .watching (.stall 0) with tickDue := [.recoverySpan 0, .stall 0] }.tickDue
        = [.recoverySpan 0, .stall 0] := by decide

/-- StallDeclarationActs, the plans: a WATCH plan in a queued step at its deadline and one whose closing settles; an
outlet that was given up, closed and open. -/
theorem witness_StallDeclarationActs_plans :
    (let pl := { planOf .cycle .queuedClose with origin := .watch }
      let s := { (waiting .cycle .close (watched .recovering (.stall 0))).setPlan 0 (some pl) with
        tickDue := [], now := 491520000 };
      Ready s ∧ s.plan 0 = some pl ∧ pl.origin = .watch
        ∧ (s.owatch 0).state ≠ .disabled ∧ (s.owatch 0).state ≠ .givenUp ∧ s.entry 0 = some (entryOf .close)
        ∧ (s.ms - (entryOf .close).deadline).toNat < 2147483648)
      ∧ (let s := operating .cycle (opOf .close .settling) (ready 5);
        s.plan 0 = some (planOf .cycle .closing) ∧ s.op 0 = some (opOf .close .settling)
          ∧ (opOf .close .settling).endsAt ≤ s.now ∧ s.isLive (branchOf 0) = false)
      ∧ (let s := { watched .givenUp (.stall 0) with tickDue := [] };
        Ready s ∧ s.plan 0 = none ∧ (s.owatch 0).state = .givenUp
          ∧ s.position 0 = .closed ∧ (s.setPosition 0 .openUnverified).position 0 = .openUnverified) := by decide

/-- StallDeclarationActs, a closing that ends DONE: an ON of an outlet in each kind of watch state. -/
theorem witness_StallDeclarationActs_done :
    (let p := { opOf .close .verifying with asserted := 7 }
      let s := live (verifying .on p);
      Ready s ∧ s.line.inFlight = some { slot := 0, startAt := 0, captured := false } ∧ s.op 0 = some p
        ∧ s.plan 0 = some (planOf .on .closing) ∧ p.endsAt ≤ 0 ∧ s.entry 0 = none ∧ 0 ∉ s.sched.retry
        ∧ s.isLive (branchOf 0) = true ∧ 8 ≤ p.asserted + 1 ∧ 63 ≤ s.relay[(0 : OutletIx)].history.length
        ∧ (s.owatch 0).state = .disabled)
      ∧ ((watched .givenUp (.stall 0)).owatch 0).state = .givenUp
      ∧ ((watched .recovering (.stall 0)).owatch 0).state = .recovering
      ∧ (planOf .cycle .closing).openingUnverified = false := by decide

/-- A capture in a state, with the slot in flight taken or not. -/
def captured (st : CaptureState) (taken : Bool) (source : CaptureSource) : State :=
  (State.reset.updCapture fun c =>
    { c with state := st, armedFrom := some 0, request := { source := source, index := 1, cycles := 1, armTimeout := 1 } }).updLine
      fun l => { l with inFlight := some { slot := 0, startAt := 0, captured := taken } }

/-- CaptureCommandsAct: each state of its rows, and both sides of the arm timeout. -/
theorem witness_CaptureCommandsAct :
    (Ready State.reset ∧ State.reset.capture.state = .idle)
      ∧ ((captured .armed false .outlet).capture.armedFrom = some 0
        ∧ 0 + (captured .armed false .outlet).capture.request.armTimeout * 8192000
          ≤ { captured .armed false .outlet with now := 8192000 }.now
        ∧ { captured .armed false .outlet with now := 8191999 }.now
          < 0 + (captured .armed false .outlet).capture.request.armTimeout * 8192000)
      ∧ (slotTaken (captured .running false .outlet) = false ∧ slotTaken (captured .running true .outlet) = true
        ∧ (captured .running true .outlet).capture.abortPending = none)
      ∧ ((captured .running true .outlet).updCapture fun c => { c with abortPending := some .aborted }).capture.abortPending
        ≠ none ∧ WellFormed (.captureUnknownCommand 0) = true := by decide

/-- CaptureWritesTakenSlot, a complete slot: each source, at the first and at the last place of the area, and with an
abort that waits. -/
theorem witness_CaptureWritesTakenSlot :
    (Ready (captured .running true .outlet) ∧ MemoryCanonical (captured .running true .outlet)
        ∧ slotTaken (captured .running true .outlet) = true
        ∧ (captured .running true .outlet).capture.fill + 2 ≤ 4096
        ∧ (captured .running true .outlet).capture.request.index = outletNumber 0)
      ∧ ((captured .running true .branch).capture.request.source = .branch
        ∧ (captured .running true .branch).capture.request.index = (0 : BranchIx).val + 1)
      ∧ ((captured .running true .phase).capture.request.source = .phase
        ∧ (captured .running true .phase).capture.request.index = (0 : PhaseIx).val + 1)
      ∧ ((captured .running true .outlet).updCapture fun c => { c with fill := 4094 }).capture.fill + 2 ≤ 4096
      ∧ (((captured .running true .branch).updCapture fun c => { c with fill := 4095 }).capture.fill
        + if CaptureSource.branch = .outlet then 2 else 1) ≤ 4096
      ∧ ((captured .running true .outlet).updCapture fun c => { c with abortPending := some .aborted }).capture.abortPending
        = some .aborted := by
  refine ⟨⟨by decide, rfl, by decide⟩, by decide⟩

/-- CaptureWritesTakenSlot, a missed slot, the triggers and the cycles: a taken slot that the next start finds, with
and without an abort that waits; each cycle start before the first captured cycle, before a further one and after the
last; a pulse start at and off a slot start. -/
theorem witness_CaptureWritesTakenSlot_triggers :
    (let s := ({ captured .running true .outlet with now := 163840 }).updCapture fun c => { c with cyclesBegun := 1 };
      Ready s ∧ s.line.nextSlot < 64 ∧ s.line.cycleStart + s.line.nextSlot * s.line.period / 64 ≤ s.now
        ∧ s.capture.state = .running ∧ slotTaken s = true ∧ 1 ≤ s.capture.cyclesBegun
        ∧ s.line.tracker ≠ .locked ∧ s.line.cycleStart + s.line.period ≤ s.now ∧ s.capture.abortPending = none
        ∧ s.capture.request.cycles ≤ s.capture.cyclesBegun)
      ∧ (let s := captured .armed false .outlet;
        s.capture.state = .armed ∧ s.capture.request.trigger = .nextCycle ∧ s.capture.cyclesBegun = 0)
      ∧ ((locked 163840).line.tracker = .locked
        ∧ (locked 163840).line.cycleStart + (locked 163840).line.period ≤ (locked 163840).now)
      ∧ ((locked 163840).line.tracker = .locked ∧ TimedEdge (locked 163840) 163840)
      ∧ (let s := (operating .off (opOf .open .aiming) (captured .armed false .outlet)).updCapture fun c =>
          { c with request := { c.request with trigger := .onOperation } };
        Ready s ∧ s.op 0 = some (opOf .open .aiming) ∧ (opOf .open .aiming).pulseDue = true
          ∧ s.capture.state = .armed ∧ s.capture.request.trigger = .onOperation
          ∧ s.capture.request.index = outletNumber 0 ∧ s.capture.cyclesBegun = 0
          ∧ s.line.inFlight = some { slot := 0, startAt := 0, captured := false } ∧ s.now = 0 ∧ (opOf .open .aiming).aim ≠ .immediate)
      ∧ { opOf .open .aiming with aim := .immediate }.aim = .immediate
      ∧ (let s := live (operating .on (opOf .close .aiming) (captured .armed false .outlet));
        s.op 0 = some (opOf .close .aiming) ∧ s.isLive (branchOf 0) = true ∧ s.port.running = true
          ∧ branchSpacingPassed s (branchOf 0) = true ∧ stripSpacingPassed s = true)
      ∧ (let s := { captured .running false .outlet with now := 2560 };
        slotTaken s = false ∧ s.capture.cyclesBegun = 0
          ∧ s.line.cycleStart + s.line.nextSlot * s.line.period / 64 ≤ s.now) := by
  refine ⟨by decide, by decide, by decide, ⟨by decide, 0, by decide⟩, by decide⟩

/-- CaptureWritesTakenSlot, HOLDOVER: a pulse in slot 63 of a flywheel cycle sets it at once, and one of an edge cycle
leaves it to the flywheel start that brings the first slot taken (R169, R171). -/
theorem witness_CaptureWritesTakenSlot_holdover :
    let s := fun k => (operating .off (opOf .open .aiming) (captured .armed false .outlet)).updCapture (fun c =>
        { c with request := { c.request with trigger := .onOperation, cycles := 2 } })
      |>.updLine fun l => { l with
        tracker := .locked, cycleKind := k, nextSlot := 64
        inFlight := some { slot := 63, startAt := 0, captured := false } };
    let run := fun k => after (.pulseStart 0) { s k with now := 5 };
    let next := fun k => { run k with now := 163840 };
    (run .flywheel).capture.holdover = true ∧ (run .edge).capture.holdover = false
      ∧ (run .edge).capture.state = .running ∧ Ready (next .edge) ∧ (next .edge).capture.abortPending = none
      ∧ (next .edge).line.tracker = .locked
      ∧ (next .edge).line.cycleStart + (next .edge).line.period ≤ (next .edge).now
      ∧ (next .edge).capture.cyclesBegun = 0 ∧ slotTaken (next .edge) = false
      ∧ (after .flywheelStart (next .edge)).capture.holdover = true
      ∧ (after .flywheelStart (next .edge)).capture.cyclesBegun = 1 := by decide

/-- OutletApplyTakesSettings: APPLYs that change and that keep the expected load, and a watch enabled and not. -/
theorem witness_OutletApplyTakesSettings :
    Ready State.reset ∧ ((after (.outletApply 0) State.reset).ocfg 0).expectedLoad = (State.reset.ocfg 0).expectedLoad
      ∧ ((after (.outletApply 0) { State.reset with xm := [⟨outletBase 0 + 0x62, 5⟩] }).ocfg 0).expectedLoad
        ≠ (State.reset.ocfg 0).expectedLoad
      ∧ ((after (.outletApply 0) State.reset).ocfg 0).watchEnable = false
      ∧ ((after (.outletApply 0) { State.reset with xm := [⟨outletBase 0 + 0x6C, 1⟩] }).ocfg 0).watchEnable = true := by
  decide

/-- OtherServices: watches and positions of each row, and unknown services of each word. -/
theorem witness_OtherServices :
    Ready State.reset ∧ (State.reset.owatch 0).state = .disabled
      ∧ ((State.reset.updOutletWatch 0 fun w => { w with state := .givenUp }).owatch 0).state = .givenUp
      ∧ powered (live (State.reset.setPosition 0 .closed)) 0 = true ∧ powered State.reset 0 = false
      ∧ watchPlanActive State.reset 0 = false ∧ WellFormed (.unknownService (.outlet 0) 5) = true
      ∧ WellFormed (.unknownService (.branch 0) 2) = true ∧ WellFormed (.unknownService .strip 0) = true := by decide

/-- BranchAndStripApplyTakeSettings: a part that serves; a restore percentage at the overload percentage, and one
below it. -/
theorem witness_BranchAndStripApplyTakeSettings :
    Ready State.reset ∧ max 10 (min 100 70) < max 50 (min 150 71) ∧ ¬ (max 10 (min 100 70) < max 50 (min 150 70)) := by
  decide

/-- BranchAndStripApplyTakeSettings, the sense and the timers: a polarity that changes with a debounce time and without
one, and back to the debounced sense; a debounce and a return timer that have reached their new times; nothing of
these, with no setting of the schedule changed. -/
theorem witness_BranchApply_guard :
    (let t := after (.branchApply 0) { State.reset with xm := [⟨0x232, 1⟩, ⟨0x233, 1⟩] };
      (t.bcfg 0).lowPresent ≠ (State.reset.bcfg 0).lowPresent ∧ (t.bcfg 0).debounceMs = 10
        ∧ t.corrected 0 ≠ (t.gbranch 0).debounced ∧ (t.gbranch 0).debounceFrom = some 0)
      ∧ (let t := after (.branchApply 0) { State.reset with xm := [⟨0x232, 1⟩] };
        (t.bcfg 0).debounceMs = 0 ∧ (t.gbranch 0).debounced = true ∧ t.branchStateOf 0 = .live)
      ∧ (let s := (ready 5).updBranch 0 fun g => { g with input := true, debounceFrom := some 0 };
        (after (.branchApply 0) { s with xm := [⟨0x232, 1⟩, ⟨0x233, 1⟩] }).gbranch 0
          = { s.gbranch 0 with debounceFrom := none })
      ∧ (let s := (ready 5).updBranch 0 fun g => { g with input := true, debounceFrom := some 0 };
        Ready s ∧ debounceReached { s with settings := (after (.branchApply 0) s).settings } 0 = true
          ∧ debounceReached s 0 = false)
      ∧ (let s := (live (ready 5)).updBranch 0 fun g => { g with state := .returning, returnFrom := some 0 };
        Ready s ∧ returnReached { s with settings := (after (.branchApply 0) s).settings } 0 = true
          ∧ returnReached s 0 = false ∧ (after (.branchApply 0) s).branchStateOf 0 = .live)
      ∧ (let s := after (.branchApply 0) State.reset;
        Ready s ∧ (after (.branchApply 0) s).settings.branches[(0 : BranchIx)] = s.bcfg 0
          ∧ debounceReached s 0 = false ∧ returnReached s 0 = false) := by decide

/-- BranchAndStripApplyTakeSettings, the spacings: an expiry that lies ahead, one that has passed, and no last start; a
closing deferred that aims again, on a branch and on the strip. -/
theorem witness_Apply_spacing :
    (let s := { ready 8192 with xm := [⟨0x234, 2⟩, ⟨0x3C, 2⟩] };
      holdOffAfter s (some 0) 2 = some 16384 ∧ holdOffAfter s (some 0) 1 = none ∧ holdOffAfter s none 2 = none
        ∧ ((after (.branchApply 0) s).bcfg 0).spacing = 2 ∧ (s.bcfg 0).spacing = 250
        ∧ (after .stripApply s).settings.strip.spacing = 2 ∧ s.settings.strip.spacing = 100
        ∧ ∀ o, s.op o = none)
      ∧ (let p := { opOf .close .aiming with deferred := true };
        let s := (live (operating .on p (ready 5))).updSchedBranch 0 fun x => { x with lastStart := some 0 };
        let w := { s with settings := (after (.branchApply 0) s).settings };
        Ready s ∧ s.op 0 = some p ∧ p.stage = .aiming ∧ p.direction = .close ∧ p.attempt = .first
          ∧ p.deferred = true ∧ s.entry 0 = none ∧ 0 ∉ s.sched.retry ∧ branchSpacingPassed s (branchOf 0) = false
          ∧ branchSpacingPassed w (branchOf 0) = true ∧ stripSpacingPassed w = true)
      ∧ (let s := (operating .on { opOf .close .aiming with deferred := true } (ready 5)).updSched fun x =>
          { x with lastStart := some 0 };
        let w := { s with settings := (after .stripApply s).settings };
        Ready s ∧ stripSpacingPassed s = false ∧ branchSpacingPassed w (branchOf 0) = true
          ∧ stripSpacingPassed w = true)
      ∧ (let s := after .stripApply State.reset;
        Ready s ∧ (after .stripApply s).settings.strip = s.settings.strip) := by decide

/-- ControlTakesRunAndMode: values without WARM with each RUN bit, in each run state. -/
theorem witness_ControlTakesRunAndMode :
    Ready State.reset ∧ (1 : Word).getLsbD 1 = false ∧ (1 : Word).getLsbD 0 = true ∧ (8 : Word).getLsbD 0 = false
      ∧ State.reset.port.running = false ∧ (live State.reset).port.running = true ∧ State.reset.plans.policyDone = false
      ∧ (State.reset.updPlans fun x => { x with policyDone := true }).plans.policyDone = true
      ∧ (let s := (State.reset.setPosition 0 .open).updSettings fun c =>
          { c with outlets := upd c.outlets 0 fun x => { x with policy := .on } };
        (s.ocfg 0).policy = .on ∧ s.plan 0 = none ∧ s.position 0 = .open ∧ s.entry 0 = none ∧ s.op 0 = none
          ∧ 0 ∉ s.sched.retry ∧ (s.setPosition 0 .unknown).position 0 = .unknown
          ∧ (s.setPosition 0 .openUnverified).position 0 = .openUnverified)
      ∧ (let s := (State.reset.setPosition 0 .closed).updSettings fun c =>
          { c with outlets := upd c.outlets 0 fun x => { x with policy := .off } };
        (s.ocfg 0).policy = .off ∧ s.plan 0 = none ∧ s.entry 0 = none ∧ s.op 0 = none ∧ 0 ∉ s.sched.retry
          ∧ s.position 0 = .closed ∧ s.branchStateOf 0 = .dead
          ∧ (s.updBranch 0 fun b => { b with state := .returning }).branchStateOf 0 = .returning)
      ∧ (let s := fun x => (State.reset.setPosition 0 x).updSettings fun c =>
          { c with outlets := upd c.outlets 0 fun y => { y with policy := .off } };
        (((after (.runSet 1) (s .closedUnverified)).plan 0).isSome = true
          ∧ ((after (.runSet 1) (s .faultStuckOpen)).plan 0).isSome = true
          ∧ (after (.runSet 1) (s .faultStuckClosed)).plan 0 = none
          ∧ (after (.runSet 1) (s .openUnverified)).plan 0 = none)
          ∧ (State.reset.ocfg 0).policy = .keep)
      ∧ (live (operating .on (opOf .close .aiming) State.reset)).op 0 = some (opOf .close .aiming)
      ∧ (after (.runClear 0) (live posted)).port.running = false := by decide

/-- One outlet's plan, entry and operation agree where only a plan and its operation stand. -/
theorem coupledAt_none {s : State} {o : OutletIx} (hp : s.plan o = none) (he : s.entry o = none) (hq : s.op o = none) :
    CoupledAt s o := by simp [CoupledAt, hp, he, hq]

/-- WarmResetEndsWork: a state whose plan, entry and operation agree, and each kind of work. -/
theorem witness_WarmResetEndsWork :
    Coupled State.reset ∧ Ready State.reset ∧ (2 : Word).getLsbD 1 = true
      ∧ (operating .on (opOf .close .pulsing) State.reset).op 0 = some (opOf .close .pulsing)
      ∧ (isPulsing (planned .cycle .dwell State.reset) 0 = false ∧ (planned .cycle .dwell State.reset).plan 0 ≠ none
        ∧ ¬ Releases (after (.warmReset 2) (planned .cycle .dwell State.reset)) 0
        ∧ Releases (after (.warmReset 2) (lossy (planned .cycle .dwell State.reset))) 0)
      ∧ grouped.plans.group.status = .active ∧ ((overloaded .shedding 0).gbranch 0).state = .shedding
      ∧ ((watched .grace (.stall 0)).owatch 0).state ≠ .disabled
      ∧ (captured .armed false .outlet).capture.state = .armed
      ∧ ((captured .running true .outlet).capture.abortPending = none ∧ slotTaken (captured .running true .outlet) = true
        ∧ slotTaken (captured .running false .outlet) = false)
      ∧ (let s := operating .on (opOf .close .aiming) State.reset;
        s.op 0 = some (opOf .close .aiming) ∧ s.branchStateOf 0 ≠ .overload ∧ s.branchStateOf 0 ≠ .shedding)
      ∧ (State.reset.plan 0 = none ∧ ¬ Releases (after (.warmReset 2) State.reset) 0)
      ∧ State.reset.plans.group.status ≠ .active ∧ ((live State.reset).gbranch 0).shedPhase ≠ .planRunning
      ∧ (State.reset.owatch 0).state = .disabled
      ∧ ((captured .running true .outlet).updCapture fun c =>
        { c with abortPending := some .aborted }).capture.abortPending ≠ none := by
  refine ⟨fun o => coupledAt_none ?_ ?_ ?_, by decide⟩ <;> revert o <;> decide

/-- HostWriteStoresHostOwned: a tag, a reading and the capture area over stored bytes, the other three registers, and
values of CONTROL with and without WARM. -/
theorem witness_HostWriteStoresHostOwned :
    (let s := { State.reset with xm := [⟨0x442, 7⟩] };
      Ready s ∧ MemoryCanonical s ∧ s.resetHeld = false)
      ∧ WellFormed (.hostWrite (.xm (0x442 / 2)) 7) = true ∧ hostOwned 0x442 = true
      ∧ WellFormed (.hostWrite (.xm (0x400 / 2)) 7) = true ∧ hostOwned 0x400 = false ∧ hostOwned 0x2000 = false
      ∧ (0 : BitVec 2) ≠ 1 ∧ (1 : Word).getLsbD 1 = false ∧ (2 : Word).getLsbD 1 = true := by
  refine ⟨⟨by decide, rfl, rfl⟩, by decide⟩

/-- PollTakesNotice: no candidate, and candidates of the first and of the last class. -/
theorem witness_PollTakesNotice :
    (∀ src, isCandidate (State.reset.updNotices fun n => { n with sources := Vector.replicate 58 {} }) src = false)
      ∧ isCandidate State.reset 4 = true
      ∧ isCandidate (State.reset.updNotice (outletSource 47) fun n => { n with pending := 1 }) (outletSource 47) = true := by
  decide

/-- NoticeEventsAct: a declared re-raise of a taken cause, an undeclared one, a pulse that ends and one that runs; in
PULSE mode causes that are not pending, enabled and disabled, a deadline that has come, and an APPLY that enables. -/
theorem witness_NoticeEventsAct :
    (let s := { State.reset.updNotice 8 fun n => { n with taken := 1, held := 1 } with tickDue := [.reRaise 8 0] };
      s.resetHeld = false ∧ TickEvent.reRaise 8 0 ∈ s.tickDue ∧ (s.notice 8).taken.getLsbD (0 : CauseBit).val = true)
      ∧ TickEvent.reRaise 8 0 ∉ State.reset.tickDue
      ∧ (let s := (locked 819200).updPort fun p => { p with mode := .pulse };
        s.tickDue = [] ∧ s.port.mode = .pulse ∧ s.line.deadline = some 819200 ∧ 819200 ≤ s.now
          ∧ s.line.closePending = none ∧ ¬ Holds s stripSource causeLineHoldover
          ∧ causeEnabled s stripSource causeLineHoldover = true ∧ ¬ Pends s stripSource causeLineHoldover
          ∧ WellFormed (.postingUnknownKind 0 9) = true ∧ ¬ Pends s (outletSource 0) causeOpRefused)
      ∧ (let s := ({ State.reset with xm := [⟨outletBase 0 + 0x7A, 1⟩] }.updSettings fun c =>
          { c with outlets := upd c.outlets 0 fun x => { x with enable := 0 } }).updNotice (outletSource 0) fun n =>
            { n with pending := 1 };
        Pends s (outletSource 0) causeOpDone ∧ causeEnabled s (outletSource 0) causeOpDone = false
          ∧ ((after (.outletApply 0) s).ocfg 0).enable.getLsbD causeOpDone.val = true)
      ∧ (let s := (({ State.reset with xm := [⟨0x42, 255⟩, ⟨0x23A, 255⟩] }.updPort fun p =>
            { p with mode := .pulse }).updSettings fun c => { c with
              branches := upd c.branches 0 fun x => { x with enable := 0 }, strip := { c.strip with enable := 0 } }).updNotice
          stripSource fun n => { n with pending := 16 };
        Pends s stripSource causeLineHoldover ∧ Pends s (branchSource 0) causeBranchDead
          ∧ ((after (.branchApply 0) s).bcfg 0).enable.getLsbD causeBranchDead.val = true
          ∧ ((after (.branchApply 0) s).gbranch 0).state = (s.gbranch 0).state
          ∧ (after .stripApply s).notices.pulseUntil = some 17)
      ∧ ((ready 17).updNotices fun n => { n with pulseUntil := some 17 }).notices.pulseUntil = some 17
      ∧ 17 ≤ (ready 17).now ∧ (ready 16).now < 17 ∧ State.reset.port.mode = .levelLow
      ∧ (after (.attentionMode 4) State.reset).port.mode = .levelHigh
      ∧ (after (.attentionMode 8) State.reset).port.mode = .pulse := by decide

end Sys2Proof.Tests
end

section
/-! The refusals of the Plan Unit (R107, R108): what a raised edge cause and a slot write change, what a ready part
answers to a posting, the two refusals, and the last refusal of a slot, which no operation on a plan touches. -/

namespace Sys2Proof.Proofs.Refusals

open Sys2Proof Sys2Proof.Machine

/-! ### Reads after an update -/

theorem updNotice_notice_self (s : State) (src : SourceIx) (f : Notice → Notice) :
    (s.updNotice src f).notice src = f (s.notice src) := upd_get_self s.notices.sources src f

theorem updNotice_notice_ne (s : State) {src x : SourceIx} (h : x ≠ src) (f : Notice → Notice) :
    (s.updNotice src f).notice x = s.notice x := upd_get_ne s.notices.sources h.symm f

theorem updSlot_slot (s : State) (o x : OutletIx) (f : ActionSlot → ActionSlot) :
    (s.updSlot o f).slot x = if o = x then f (s.slot x) else s.slot x := by
  rw [State.slot, State.updSlot, State.updPlans_plans, upd_get]
  split
  next h => subst h; rfl
  next => rfl

@[simp] theorem setPlan_slot (s : State) (o x : OutletIx) (p : Option Plan) : (s.setPlan o p).slot x = s.slot x := by
  rw [State.slot, State.setPlan, State.updPlans_plans, upd_get]
  split
  next h => subst h; rfl
  next => rfl

theorem updSlot_plan (s : State) (o : OutletIx) (f : ActionSlot → ActionSlot) :
    (s.updSlot o f).plan o = s.plan o := by
  rw [State.plan, State.updSlot, State.updPlans_plans, upd_get_self]
  rfl

/-! ### Raising an edge cause (R187) -/

theorem causeMask_getLsbD (c d : CauseBit) : (causeMask c).getLsbD d.val = decide (c = d) := by
  revert c d
  decide

@[simp] theorem notifyPending_notice (src x : SourceIx) (c : CauseBit) (s : State) :
    (notifyPending src c s).notice x = s.notice x := by
  unfold notifyPending
  split <;> rfl

/-- A raised edge cause is pending afterwards, and no other cause of its source begins or ceases to be. -/
theorem raiseEdge_pending (src : SourceIx) (c d : CauseBit) (s : State) :
    ((raiseEdge src c s).notice src).pending.getLsbD d.val
      = ((s.notice src).pending.getLsbD d.val || decide (c = d)) := by
  unfold raiseEdge becomePending
  split
  next h =>
    by_cases hcd : c = d
    · subst hcd
      simp [h]
    · simp [hcd]
  next =>
    rw [notifyPending_notice, updNotice_notice_self, BitVec.getLsbD_or, causeMask_getLsbD]

theorem raiseEdge_notice_ne {src x : SourceIx} (h : x ≠ src) (c : CauseBit) (s : State) :
    (raiseEdge src c s).notice x = s.notice x := by
  unfold raiseEdge becomePending
  split
  next => rfl
  next => rw [notifyPending_notice, updNotice_notice_ne s h]

/-! ### What a ready part answers to a posting (R105, R106) -/

/-- No event of a tick waits: nothing comes before the command. -/
theorem flushBefore_of_none (creates : State → OutletIx → Bool) {s : State} (h : s.tickDue = []) :
    flushBefore creates s = s := by
  calc flushBefore creates s = { s with tickDue := [] } := by rw [flushBefore, h]; rfl
    _ = s := by rw [← h]

theorem servedBefore_of_ready {s : State} (h : Ready s) (creates : State → OutletIx → Bool) (f : State → State) :
    servedBefore creates f s = .next (f s) := by
  rw [servedBefore, h.1, flushBefore_of_none creates h.2]
  rfl

theorem served_of_ready {s : State} (h : Ready s) (f : State → State) : served f s = .next (f s) := by
  rw [served, h.1, ← flushBefore_none, flushBefore_of_none _ h.2]
  rfl

theorem exec_postingOn {s : State} (h : Ready s) (o : OutletIx) :
    exec (.postingOn o) s = .next (postKind o .on s) := servedBefore_of_ready h _ _

theorem exec_postingOff {s : State} (h : Ready s) (o : OutletIx) :
    exec (.postingOff o) s = .next (postKind o .off s) := servedBefore_of_ready h _ _

theorem exec_postingCycle {s : State} (h : Ready s) (o : OutletIx) :
    exec (.postingCycle o) s = .next (postKind o .cycle s) := servedBefore_of_ready h _ _

theorem exec_postingCancel {s : State} (h : Ready s) (o : OutletIx) :
    exec (.postingCancel o) s = .next (postCancel o s) := served_of_ready h _

/-- A value that names no kind is judged as an unknown kind. -/
theorem post_of_unknown {o : OutletIx} {v : Word} (hv : WellFormed (.postingUnknownKind o v) = true) (s : State) :
    post o v s = postUnknown o v s := by
  obtain ⟨h1, h2, h3, h4⟩ := (Sys2Proof.Laws.Operands.postingUnknownKind o v).mp hv
  have hkind : kindOfWord v = none := by rw [kindOfWord, if_neg h1, if_neg h2, if_neg h3]
  have hcancel : v ≠ cancelWord := h4
  rw [post, if_neg hcancel, hkind]

theorem exec_postingUnknownKind {s : State} (h : Ready s) {o : OutletIx} {v : Word}
    (hv : WellFormed (.postingUnknownKind o v) = true) :
    exec (.postingUnknownKind o v) s = .next (postUnknown o v s) := by
  rw [← post_of_unknown hv]
  exact servedBefore_of_ready h _ _

/-! ### The two refusals (R107, R108) -/

/-- What both refusals do: the slot is written, OP_REFUSED becomes pending, and nothing else changes. -/
theorem refusal_effect (s : State) (o : OutletIx) (f : ActionSlot → ActionSlot) :
    let t := raiseEdge (outletSource o) causeOpRefused (s.updSlot o f)
    Only [.plans, .notices] s t ∧ SameElse o s.plans.outlets t.plans.outlets ∧ t.plans.group = s.plans.group
      ∧ t.plans.policyDone = s.plans.policyDone ∧ t.plan o = s.plan o ∧ t.slot o = f (s.slot o)
      ∧ Pends t (outletSource o) causeOpRefused
      ∧ (Pends t (outletSource o) causeOpDone ↔ Pends s (outletSource o) causeOpDone)
      ∧ ∀ src, src ≠ outletSource o → t.notice src = s.notice src := by
  intro t
  have hplans : t.plans = (s.updSlot o f).plans := by simp [t]
  have hslot : t.slot o = (s.updSlot o f).slot o := by simp only [State.slot, hplans]
  have hplan : t.plan o = (s.updSlot o f).plan o := by simp only [State.plan, hplans]
  have hpending := fun d => raiseEdge_pending (outletSource o) causeOpRefused d (s.updSlot o f)
  refine ⟨?only, ?elsewhere, ?group, ?policy, ?plan, ?slot, ?refused, ?done, ?notice⟩
  case only => constructor <;> simp [t]
  case elsewhere =>
    intro x hx
    rw [hplans]
    exact upd_get_ne s.plans.outlets hx.symm _
  case group => rw [hplans]; rfl
  case policy => rw [hplans]; rfl
  case plan => rw [hplan, updSlot_plan]
  case slot => rw [hslot, updSlot_slot, if_pos rfl]
  case refused => exact (hpending causeOpRefused).trans (by simp)
  case done =>
    have hdone := hpending causeOpDone
    rw [show decide (causeOpRefused = causeOpDone) = false from rfl, Bool.or_false] at hdone
    exact iff_of_eq (congrArg (· = true) hdone)
  case notice => exact fun src h => raiseEdge_notice_ne h _ _

/-- The slot that R107 writes, with the tag that the posting captures. -/
def refusedSlot (s : State) (o : OutletIx) (kind : Word) (code : ResultCode) : ActionSlot :=
  { used := true, origin := some .posted, kind := kind, result := code, tag := slotTag s o
    endSec := s.line.seconds, replaced := none, refusal := code, refusalTag := slotTag s o }

theorem refuseIdle_eq (s : State) (o : OutletIx) (kind : Word) (code : ResultCode) :
    refuseIdle o .posted kind (slotTag s o) code s
      = raiseEdge (outletSource o) causeOpRefused (s.updSlot o fun _ => refusedSlot s o kind code) := rfl

/-- R107, whatever posting was refused. -/
theorem refuseIdle_effect {s : State} {o : OutletIx} (hplan : s.plan o = none) (kind : Word) (code : ResultCode) :
    let t := refuseIdle o .posted kind (slotTag s o) code s
    Only [.plans, .notices] s t ∧ SameElse o s.plans.outlets t.plans.outlets
      ∧ t.plans.group = s.plans.group ∧ t.plans.policyDone = s.plans.policyDone ∧ t.plan o = none
      ∧ t.slot o = refusedSlot s o kind code ∧ slotStatus t o = .ended ∧ Pends t (outletSource o) causeOpRefused
      ∧ (Pends t (outletSource o) causeOpDone ↔ Pends s (outletSource o) causeOpDone)
      ∧ ∀ src, src ≠ outletSource o → t.notice src = s.notice src := by
  rw [refuseIdle_eq]
  intro t
  obtain ⟨honly, helse, hgroup, hpolicy, hkept, hslot, hrefused, hdone, hnotice⟩ :=
    refusal_effect s o fun _ => refusedSlot s o kind code
  have hnone : t.plan o = none := hkept.trans hplan
  have hended : slotStatus t o = .ended := by
    have hused : (t.slot o).used = true := congrArg ActionSlot.used hslot
    simp [slotStatus, hnone, hused]
  exact ⟨honly, helse, hgroup, hpolicy, hnone, hslot, hended, hrefused, hdone, hnotice⟩

/-- A plan kind that R106 refuses at the outlet's position ends a slot that is not ACTIVE with the refusal. -/
theorem postKind_of_refused {s : State} {o : OutletIx} {k : PlanKind} {code : ResultCode} (hplan : s.plan o = none)
    (hjudge : judge k (s.position o) = .refuse code) :
    postKind o k s = refuseIdle o .posted (kindWord k) (slotTag s o) code s := by
  simp [postKind, hplan, postIdle, hjudge]

theorem postCancel_of_idle {s : State} {o : OutletIx} (hplan : s.plan o = none) :
    postCancel o s = refuseIdle o .posted cancelWord (slotTag s o) .nothingToCancel s := by
  simp [postCancel, hplan]

theorem postUnknown_of_idle {s : State} {o : OutletIx} (hplan : s.plan o = none) (v : Word) :
    postUnknown o v s = refuseIdle o .posted v (slotTag s o) .badKind s := by
  simp [postUnknown, hplan]

theorem postUnknown_of_active {s : State} {o : OutletIx} {p : Plan} (hplan : s.plan o = some p) (v : Word) :
    postUnknown o v s = refuseActive o (slotTag s o) .badKind s := by
  simp [postUnknown, hplan]

/-- An ON or a CYCLE finds the slot ACTIVE. -/
theorem postKind_of_busy {s : State} {o : OutletIx} {p : Plan} {k : PlanKind} (hplan : s.plan o = some p)
    (hk : k ≠ .off) : postKind o k s = refuseActive o (slotTag s o) .busy s := by
  cases k with
  | off => exact absurd rfl hk
  | on => simp [postKind, hplan, postActive]
  | cycle => simp [postKind, hplan, postActive]

/-- Settles O38: each row of R106's table that refuses answers with R107's write of the idle slot. -/
theorem idleRefusalEndsSlot : Obligations.IdleRefusalEndsSlot := by
  unfold Obligations.IdleRefusalEndsSlot
  intro s o c kind code hready hplan hrow
  suffices h : exec c s = .next (refuseIdle o .posted kind (slotTag s o) code s) from
    ⟨_, h, refuseIdle_effect hplan kind code⟩
  rcases hrow with ⟨rfl, rfl, rfl, hpos⟩ | ⟨rfl, rfl, rfl, hpos⟩ | ⟨rfl, rfl, rfl, hpos⟩ | ⟨rfl, rfl, rfl, hpos⟩
    | ⟨rfl, rfl, rfl⟩ | ⟨rfl, hv, rfl⟩
  · have hjudge : judge .on (s.position o) = .refuse .fault := by rcases hpos with h | h <;> simp [judge, h]
    rw [exec_postingOn hready, postKind_of_refused hplan hjudge]
    rfl
  · have hjudge : judge .off (s.position o) = .refuse .fault := by simp [judge, hpos]
    rw [exec_postingOff hready, postKind_of_refused hplan hjudge]
    rfl
  · have hjudge : judge .cycle (s.position o) = .refuse .fault := by rcases hpos with h | h <;> simp [judge, h]
    rw [exec_postingCycle hready, postKind_of_refused hplan hjudge]
    rfl
  · have hjudge : judge .cycle (s.position o) = .refuse .notOn := by rcases hpos with h | h | h <;> simp [judge, h]
    rw [exec_postingCycle hready, postKind_of_refused hplan hjudge]
    rfl
  · rw [exec_postingCancel hready, postCancel_of_idle hplan]
    rfl
  · rw [exec_postingUnknownKind hready hv, postUnknown_of_idle hplan]

/-! ### What no operation on a plan touches (R104, R108)

The last refusal of every outlet, its code and tag with the cause OP_REFUSED, is written by the two refusals alone. One
lemma for each operation that a taken OFF or CANCEL is made of, in the order of the model. -/

/-- The last refusal of an outlet's slot, and whether OP_REFUSED is pending at the outlet. -/
def lastRefusal (s : State) (x : OutletIx) : ResultCode × BitVec 8 × Bool :=
  ((s.slot x).refusal, (s.slot x).refusalTag, (s.notice (outletSource x)).pending.getLsbD causeOpRefused.val)

theorem lastRefusal_congr {s t : State} (hplans : t.plans = s.plans) (hnotices : t.notices = s.notices) (x : OutletIx) :
    lastRefusal t x = lastRefusal s x := by
  simp only [lastRefusal, State.slot, State.notice, hplans, hnotices]

@[simp] theorem updGroup_lastRefusal (s : State) (f : Group → Group) (x : OutletIx) :
    lastRefusal (s.updGroup f) x = lastRefusal s x := rfl

@[simp] theorem setPlan_lastRefusal (s : State) (o x : OutletIx) (p : Option Plan) :
    lastRefusal (s.setPlan o p) x = lastRefusal s x := by
  simp only [lastRefusal, setPlan_slot]
  rfl

/-- A slot write that leaves the two fields of the last refusal alone. -/
theorem updSlot_lastRefusal (s : State) (o x : OutletIx) (f : ActionSlot → ActionSlot)
    (hf : ∀ y, (f y).refusal = y.refusal ∧ (f y).refusalTag = y.refusalTag) :
    lastRefusal (s.updSlot o f) x = lastRefusal s x := by
  have hslot : ((s.updSlot o f).slot x).refusal = (s.slot x).refusal
      ∧ ((s.updSlot o f).slot x).refusalTag = (s.slot x).refusalTag := by
    rw [updSlot_slot]
    split
    next => exact hf _
    next => exact ⟨rfl, rfl⟩
  rw [lastRefusal, hslot.1, hslot.2]
  rfl

/-- Another edge cause, or one of a source that is no outlet. -/
theorem raiseEdge_lastRefusal {src : SourceIx} {c : CauseBit} {x : OutletIx}
    (h : outletSource x ≠ src ∨ c ≠ causeOpRefused) (s : State) :
    lastRefusal (raiseEdge src c s) x = lastRefusal s x := by
  have hpending : ((raiseEdge src c s).notice (outletSource x)).pending.getLsbD causeOpRefused.val
      = (s.notice (outletSource x)).pending.getLsbD causeOpRefused.val := by
    by_cases hsrc : outletSource x = src
    · have hc : c ≠ causeOpRefused := h.resolve_left fun hne => hne hsrc
      rw [hsrc, raiseEdge_pending, decide_eq_false hc, Bool.or_false]
    · rw [raiseEdge_notice_ne hsrc]
  simp only [lastRefusal, hpending, State.slot, raiseEdge_frame]

/-! #### The schedule -/

@[simp] theorem setStep_lastRefusal (o : OutletIx) (st : PlanStep) (s : State) (x : OutletIx) :
    lastRefusal (setStep o st s) x = lastRefusal s x := by
  unfold setStep
  split <;> simp

@[simp] theorem dispatchEntry_lastRefusal (o : OutletIx) (e : Entry) (s : State) (x : OutletIx) :
    lastRefusal (dispatchEntry o e s) x = lastRefusal s x := by
  rw [dispatchEntry, setStep_lastRefusal]
  exact lastRefusal_congr (by simp) (by simp) x

@[simp] theorem grantOpening_lastRefusal (o : OutletIx) (s : State) (x : OutletIx) :
    lastRefusal (grantOpening o s) x = lastRefusal s x := by
  unfold grantOpening
  split
  next e _ =>
    calc lastRefusal (setLearned o (dispatchEntry o e s)) x
      _ = lastRefusal (dispatchEntry o e s) x := lastRefusal_congr (by simp) (by simp) x
      _ = lastRefusal s x := dispatchEntry_lastRefusal o e s x
  next => rfl

@[simp] theorem grantClosing_lastRefusal (o : OutletIx) (s : State) (x : OutletIx) :
    lastRefusal (grantClosing o s) x = lastRefusal s x := by
  unfold grantClosing
  split
  next e _ =>
    rw [dispatchEntry_lastRefusal]
    exact lastRefusal_congr (by simp) (by simp) x
  next => rfl

/-- The grants of a pass, by induction on their bound: one case for each tier. -/
@[simp] theorem grants_lastRefusal (k : Nat) (s : State) (x : OutletIx) :
    lastRefusal (grants k s).1 x = lastRefusal s x := by
  induction k generalizing s with
  | zero => rfl
  | succ k ih =>
    have hretry : ∀ o, lastRefusal (grantRetry o s) x = lastRefusal s x := fun o =>
      lastRefusal_congr (by simp) (by simp) x
    unfold grants
    split
    next => rfl
    next =>
      split
      next o _ _ => exact (ih _).trans (hretry o)
      next =>
        split
        next => rfl
        next =>
          split
          next o _ => exact (ih _).trans (grantOpening_lastRefusal o s x)
          next =>
            split
            next o _ => exact (ih _).trans (grantClosing_lastRefusal o s x)
            next => rfl

@[simp] theorem dispatchPass_lastRefusal (s : State) (x : OutletIx) :
    lastRefusal (dispatchPass s) x = lastRefusal s x := by
  rw [dispatchPass]
  exact (lastRefusal_congr (by simp) (by simp) x).trans (grants_lastRefusal (grantBound s) s x)

@[simp] theorem joinEntry_lastRefusal (o : OutletIx) (d : Direction) (origin : Origin) (enteredAt : BitVec 32)
    (s : State) (x : OutletIx) : lastRefusal (joinEntry o d origin enteredAt s) x = lastRefusal s x := by
  rw [joinEntry, dispatchPass_lastRefusal]
  exact lastRefusal_congr (by simp) (by simp) x

@[simp] theorem removeEntry_lastRefusal (o : OutletIx) (s : State) (x : OutletIx) :
    lastRefusal (removeEntry o s) x = lastRefusal s x := lastRefusal_congr (by simp) (by simp) x

/-! #### Creations and ends -/

@[simp] theorem placePlan_lastRefusal (o : OutletIx) (r : PlanRequest) (p : Plan) (s : State) (x : OutletIx) :
    lastRefusal (placePlan o r p s) x = lastRefusal s x := by
  rw [placePlan, updSlot_lastRefusal _ o x (slotAtCreation r p.replaced) fun _ => ⟨rfl, rfl⟩, setPlan_lastRefusal]

@[simp] theorem reportCreation_lastRefusal (o : OutletIx) (origin : Origin) (s : State) (x : OutletIx) :
    lastRefusal (reportCreation o origin s) x = lastRefusal s x := lastRefusal_congr (by simp) (by simp) x

@[simp] theorem enterQueued_lastRefusal (o : OutletIx) (d : Direction) (enteredAt : BitVec 32) (s : State)
    (x : OutletIx) : lastRefusal (enterQueued o d enteredAt s) x = lastRefusal s x := by
  unfold enterQueued
  split <;> simp

@[simp] theorem requestRelease_lastRefusal (o : OutletIx) (s : State) (x : OutletIx) :
    lastRefusal (requestRelease o s) x = lastRefusal s x := by
  rw [requestRelease, createQueued, enterQueued_lastRefusal, createPlan, reportCreation_lastRefusal,
    placePlan_lastRefusal]
  exact lastRefusal_congr (by simp) (by simp) x

@[simp] theorem releaseAtEnd_lastRefusal (o : OutletIx) (s : State) (x : OutletIx) :
    lastRefusal (releaseAtEnd o s) x = lastRefusal s x := by
  unfold releaseAtEnd
  split <;> simp

@[simp] theorem giveUp_lastRefusal (o : OutletIx) (s : State) (x : OutletIx) :
    lastRefusal (giveUp o s) x = lastRefusal s x := by
  rw [giveUp, raiseEdge_lastRefusal (.inr (by decide))]
  exact lastRefusal_congr (by simp) (by simp) x

/-- An end reaches the watch: it raises at most WATCH_GAVE_UP (R157, R158). -/
@[simp] theorem watchPlanEnd_lastRefusal (o : OutletIx) (origin : Origin) (out : PlanOutcome) (s : State)
    (x : OutletIx) : lastRefusal (watchPlanEnd o origin out s) x = lastRefusal s x := by
  have hwatch : ∀ f, lastRefusal (s.updOutletWatch o f) x = lastRefusal s x := fun _ => rfl
  have hended : lastRefusal (watchPlanEnded o out s) x = lastRefusal s x := by
    cases out <;> simp [watchPlanEnded, hwatch]
  have hagain : lastRefusal (reevaluate o s) x = lastRefusal s x := hwatch _
  unfold watchPlanEnd
  repeat' split
  all_goals simp [hwatch, hended, hagain]

@[simp] theorem shedPlanEnd_lastRefusal (o : OutletIx) (origin : Origin) (s : State) (x : OutletIx) :
    lastRefusal (shedPlanEnd o origin s) x = lastRefusal s x := lastRefusal_congr (by simp) (by simp) x

@[simp] theorem groupEnd_lastRefusal (member : Bool) (out : PlanOutcome) (s : State) (x : OutletIx) :
    lastRefusal (groupEnd member out s) x = lastRefusal s x := by
  unfold groupEnd
  split <;> simp

theorem outletSource_ne_stripSource (x : OutletIx) : outletSource x ≠ stripSource := by
  intro h
  have hval : 10 + x.val = 0 := congrArg Fin.val h
  omega

@[simp] theorem groupCheck_lastRefusal (s : State) (x : OutletIx) :
    lastRefusal (groupCheck s) x = lastRefusal s x := by
  unfold groupCheck
  split
  next => rw [finishGroup, raiseEdge_lastRefusal (.inl (outletSource_ne_stripSource x)), updGroup_lastRefusal]
  next => rfl

@[simp] theorem closePlan_lastRefusal (o : OutletIx) (p : Plan) (out : PlanOutcome) (s : State) (x : OutletIx) :
    lastRefusal (closePlan o p out s) x = lastRefusal s x := by
  rw [closePlan, groupEnd_lastRefusal, shedPlanEnd_lastRefusal, watchPlanEnd_lastRefusal, setPlan_lastRefusal,
    raiseEdge_lastRefusal (.inr (by decide)), updSlot_lastRefusal _ o x (slotAtEnd s out) fun _ => ⟨rfl, rfl⟩]

@[simp] theorem endPlan_lastRefusal (o : OutletIx) (out : PlanOutcome) (s : State) (x : OutletIx) :
    lastRefusal (endPlan o out s) x = lastRefusal s x := by
  rw [endPlan, groupCheck_lastRefusal]
  unfold endPlanUnchecked
  split <;> simp

/-! #### The superseding OFF and the CANCEL (R109, R110) -/

@[simp] theorem lookAndGo_lastRefusal (o : OutletIx) (s : State) (x : OutletIx) :
    lastRefusal (lookAndGo o s) x = lastRefusal s x := by
  unfold lookAndGo
  split <;> simp

@[simp] theorem reportSupersede_lastRefusal (o : OutletIx) (old : Plan) (s : State) (x : OutletIx) :
    lastRefusal (reportSupersede o old s) x = lastRefusal s x := by
  simp [reportSupersede]

theorem supersede_lastRefusal (o : OutletIx) (old : Plan) (r : PlanRequest) (s : State) (x : OutletIx) :
    lastRefusal (supersede o old r s) x = lastRefusal s x := by
  unfold supersede
  dsimp only
  split <;> simp

theorem cancelPlan_lastRefusal (o : OutletIx) (p : Plan) (s : State) (x : OutletIx) :
    lastRefusal (cancelPlan o p s) x = lastRefusal s x := by
  unfold cancelPlan
  split <;> simp

/-! ### Postings to an ACTIVE slot (R108) -/

/-- R108's refusal: the plan stays, and of its slot only the last refusal is written. -/
theorem refuseActive_effect {s : State} {o : OutletIx} {p : Plan} (hplan : s.plan o = some p) (code : ResultCode) :
    let t := refuseActive o (slotTag s o) code s
    Only [.plans, .notices] s t ∧ SameElse o s.plans.outlets t.plans.outlets ∧ t.plans.group = s.plans.group
      ∧ t.plan o = some p ∧ t.slot o = { s.slot o with refusal := code, refusalTag := slotTag s o }
      ∧ Pends t (outletSource o) causeOpRefused ∧ ∀ src, src ≠ outletSource o → t.notice src = s.notice src := by
  obtain ⟨honly, helse, hgroup, _, hkept, hslot, hrefused, _, hnotice⟩ := refusal_effect s o fun y =>
    { y with refusal := code, refusalTag := slotTag s o }
  exact ⟨honly, helse, hgroup, hkept.trans hplan, hslot, hrefused, hnotice⟩

/-- Equal last refusals, field by field. -/
theorem fields_of_lastRefusal_eq {s t : State} {o : OutletIx} (h : lastRefusal t o = lastRefusal s o) :
    (t.slot o).refusal = (s.slot o).refusal ∧ (t.slot o).refusalTag = (s.slot o).refusalTag
      ∧ (Pends t (outletSource o) causeOpRefused ↔ Pends s (outletSource o) causeOpRefused) := by
  obtain ⟨hcode, hrest⟩ := Prod.mk.inj h
  obtain ⟨htag, hpending⟩ := Prod.mk.inj hrest
  exact ⟨hcode, htag, by rw [Pends, hpending]⟩

/-- Settles O39: the refused postings take R108's one write; an OFF supersedes and a CANCEL is carried out, and neither
touches the last refusal. -/
theorem activeRefusalWritesLastRefusal : Obligations.ActiveRefusalWritesLastRefusal := by
  unfold Obligations.ActiveRefusalWritesLastRefusal
  refine ⟨?refused, ?taken⟩
  case refused =>
    intro s o c p code hready hplan hrow
    suffices h : exec c s = .next (refuseActive o (slotTag s o) code s) from ⟨_, h, refuseActive_effect hplan code⟩
    rcases hrow with ⟨rfl | rfl, rfl⟩ | ⟨v, rfl, hv, rfl⟩
    · rw [exec_postingOn hready, postKind_of_busy hplan (by decide)]
    · rw [exec_postingCycle hready, postKind_of_busy hplan (by decide)]
    · rw [exec_postingUnknownKind hready hv, postUnknown_of_active hplan]
  case taken =>
    intro s o c p hready hplan hc
    rcases hc with rfl | rfl
    · have hoff : postKind o .off s = supersede o p (postedRequest s o .off) s := by
        simp [postKind, hplan, postActive]
      refine ⟨_, exec_postingOff hready o, fields_of_lastRefusal_eq ?_⟩
      rw [hoff, supersede_lastRefusal]
    · have hcancel : postCancel o s = cancelPlan o p s := by simp [postCancel, hplan]
      refine ⟨_, exec_postingCancel hready o, fields_of_lastRefusal_eq ?_⟩
      rw [hcancel, cancelPlan_lastRefusal]

end Sys2Proof.Proofs.Refusals
end
